-- ==== Sys2Proof/Word.lean ====
section
/-!
DEFINITION. The machine's word types and their plainest arithmetic (spec/00_scope.md R3, R4:
`XLEN = 32`, bit 0 is the least significant bit).
-/

namespace Sys2Proof

/-- A general register, a data word, an address or the pc: 32 bits (R3 `XLEN`). -/
abbrev Word := BitVec 32

/-- One byte lane of a 32-bit cell. -/
abbrev Byte := BitVec 8

/-- A register number, the 4-bit `rd`, `rs1` or `rs2` field (R3 `NREG` = 16, R10). -/
abbrev Reg := BitVec 4

end Sys2Proof
end

