-- ==== Sys2Proof/Config.lean ====
section
/-!
DEFINITION. The configuration record of spec/00_scope.md R3 (what an implementation fixes) and the
free values (what the spec leaves `any`). The record is plain data and stands in `State`, so a claim
about every state is a claim about every configuration; no step changes it.
-/

namespace Sys2Proof

/-- `PC_STEP`: the distance between consecutive instructions and the unit of the branch offset (R3, R15). -/
inductive PcStep where
  | one
  | four
deriving DecidableEq, Repr

/-- `SHAMT_MODE`: what a shift does with an amount of 32 or more (R3, R100). -/
inductive ShamtMode where
  | low5
  | full
deriving DecidableEq, Repr

/-- `CSR_CLEAR_POLARITY`: which bit value of the 16-bit field clears a CSR bit (R3, R137). -/
inductive ClearPolarity where
  | andMask
  | selectMask
deriving DecidableEq, Repr

/-- `UNUSED_BITS_POLICY`: what decode does with bits no format assigns (R3, R73). -/
inductive UnusedBits where
  | ignore
  | refuse
deriving DecidableEq, Repr

/-- The switch of R55: `harvard` states the Harvard assumption (a store never meets the program),
`guarded` faults on a store whose address, read as an instruction address, is in the loaded program. -/
inductive CodeStores where
  | harvard
  | guarded
deriving DecidableEq, Repr

/-- `WDT_EN_BIT`: which bit of `csr[4]` is the watchdog enable (R3, R23). -/
inductive WdtEnBit where
  | bit3
  | bit4
deriving DecidableEq, Repr

/-- The number of bits an SPI transfer shifts (R233). -/
inductive SpiLength where
  | bits8
  | bits16
  | bits32
deriving DecidableEq, Repr

/-- The eight interrupt sources of `csr[5]` (R24, R152). -/
inductive Source where
  | eInt0
  | eInt1
  | eInt2
  | eInt3
  | uart
  | spi
  | i2c
  | timer
deriving DecidableEq, Repr

/-- `FLAGS_LAYOUT`: where EQ and GT stand in `r13`; every other bit of `r13` is 0 (R3, R164). -/
structure FlagsLayout where
  eqBit : BitVec 5
  gtBit : BitVec 5
deriving DecidableEq, Repr

/-- `CSR_SELECT`: the four bits of the instruction word that are the CSR index of a `csr mov`, the highest first
(R3, R68). -/
structure CsrSelect where
  b3 : BitVec 5
  b2 : BitVec 5
  b1 : BitVec 5
  b0 : BitVec 5
deriving DecidableEq, Repr

/-- The configuration record of R3, with the two switches the spec names elsewhere: the guard of R55
and the SPI SIZE codes of R233 (93_implementation_defined.md U20). -/
structure Config where
  /-- `PC_STEP` -/
  pcStep : PcStep
  /-- `RESET_PC` -/
  resetPc : Word
  /-- `LINK_REG`: the register `call` writes and `ret` reads -/
  linkReg : Reg
  /-- `FLAGS_LAYOUT` -/
  flagsLayout : FlagsLayout
  /-- `SHAMT_MODE` -/
  shamtMode : ShamtMode
  /-- `CSR_SELECT` -/
  csrSelect : CsrSelect
  /-- `CSR_CLEAR_POLARITY` -/
  clearPolarity : ClearPolarity
  /-- `UNUSED_BITS_POLICY` -/
  unusedBits : UnusedBits
  /-- the switch of R55 -/
  codeStores : CodeStores
  /-- `HIGH_GROUP`: the four high-priority sources (OPEN) -/
  highGroup : List Source
  /-- `IVT_HIGH` (OPEN) -/
  ivtHigh : Word
  /-- `IVT_LOW` (OPEN) -/
  ivtLow : Word
  /-- `WDT_EN_BIT` (OPEN) -/
  wdtEnBit : WdtEnBit
  /-- `RAM_BASE` (OPEN) -/
  ramBase : Word
  /-- `RAM_WORDS` (OPEN) -/
  ramWords : Nat
  /-- `IMEM_WORDS` (OPEN) -/
  imemWords : Nat
  /-- `TMCON_CSR` (OPEN): `none` where it is not supplied (R26) -/
  tmconCsr : Option (BitVec 4)
  /-- the transfer length behind SIZE code 00 (U20; code 11 is 32 bits by R21) -/
  spiSize00 : SpiLength
  /-- the transfer length behind SIZE code 01 (U20) -/
  spiSize01 : SpiLength
  /-- the transfer length behind SIZE code 10 (U20) -/
  spiSize10 : SpiLength
deriving DecidableEq, Repr

/-- `PC_STEP` as a number. -/
def PcStep.toNat : PcStep → Nat
  | .one => 1
  | .four => 4

/-- `PC_STEP` as a word. -/
def PcStep.toWord (p : PcStep) : Word := BitVec.ofNat 32 p.toNat

/-- What the spec requires of the open parameters: four distinct high sources (R152), a data memory
inside the address space and clear of 0x00010000 to 0x00010011 (R3), an instruction memory inside the
pc's range, a TMCON index that is not one of the five CSRs (R26), distinct flag bits (R164), and
aligned entry addresses under `PC_STEP = 4` (R16). -/
abbrev Config.wf (c : Config) : Prop :=
  c.highGroup.length = 4 ∧ c.highGroup.Nodup ∧
  c.ramBase.toNat + c.ramWords ≤ 2 ^ 32 ∧
  (c.ramBase.toNat + c.ramWords ≤ 0x10000 ∨ 0x10012 ≤ c.ramBase.toNat) ∧
  c.imemWords * c.pcStep.toNat ≤ 2 ^ 32 ∧
  (∀ k ∈ c.tmconCsr, k = 0#4 ∨ 6 ≤ k.toNat) ∧
  c.flagsLayout.eqBit ≠ c.flagsLayout.gtBit ∧
  c.resetPc.toNat % c.pcStep.toNat = 0 ∧
  c.ivtHigh.toNat % c.pcStep.toNat = 0 ∧
  c.ivtLow.toNat % c.pcStep.toNat = 0

/-- The record `State.reset` carries. The rows R3 calls 'default' have their default; every row R3
calls OPEN has a value here that is a DESIGN CHOICE (unsafe, notes/assumptions/3.md): no statement
rests on it, since a statement about every state is about every record. -/
def Config.default : Config where
  pcStep := .one
  resetPc := 0x00000000#32
  linkReg := 15#4
  flagsLayout := ⟨0#5, 1#5⟩
  shamtMode := .low5
  csrSelect := ⟨25#5, 24#5, 23#5, 22#5⟩
  clearPolarity := .andMask
  unusedBits := .ignore
  codeStores := .harvard
  highGroup := [.eInt0, .eInt1, .eInt2, .eInt3]
  ivtHigh := 0x00000020#32
  ivtLow := 0x00000080#32
  wdtEnBit := .bit3
  ramBase := 0x00000000#32
  ramWords := 0x10000
  imemWords := 0x10000
  tmconCsr := some 6#4
  spiSize00 := .bits8
  spiSize01 := .bits16
  spiSize10 := .bits32

/-- A free value: `any` of R5, one word for each draw. It has no body, so nothing can be proved of
it; `State.freeCount` says how many have been drawn (notes/assumptions/2.md). -/
opaque Config.freeWord : Nat → Word

/-- What a byte lane of data memory holds that nothing has stored to since reset number `epoch`
(R44: `any`, yet reads are idempotent): free, fixed for each reset and lane
(notes/assumptions/4.md). -/
opaque Config.initialByte : Nat → Nat → Byte

end Sys2Proof
end

