-- ==== Sys2Proof/Machine/Bits.lean ====
section
/-!
DEFINITION. Bit-field helpers (spec/00_scope.md R4).
-/

namespace Sys2Proof.Machine

/-- `x` with bit `i` made `b`. -/
def setBit {n : Nat} (x : BitVec n) (i : Nat) (b : Bool) : BitVec n :=
  if b then x ||| BitVec.twoPow n i else x &&& ~~~(BitVec.twoPow n i)

/-- Exactly one bit of the word is set (the operand of a `csr mov` read, R135). -/
def oneHotWord (p : Word) : Bool := p ≠ 0#32 && (p &&& (p - 1#32)) == 0#32

end Sys2Proof.Machine
end

