-- ==== Sys2Proof/Machine/Flags.lean ====
section
/-!
DEFINITION. Every flag computation of the spec: `cmp` (spec/40_alu.md R97), the `csr mov` read
(spec/44_system.md R135), and the packing of the flags into `r13` (spec/60_exceptions.md R164).
-/

namespace Sys2Proof.Machine

/-- EQ after `cmp` (R97). -/
def compareEq (a b : Word) : Bool := a == b

/-- GT after `cmp`: the true signed comparison `signed(a) > signed(b)` (R97). -/
def compareGt (a b : Word) : Bool := decide (a.toInt > b.toInt)

/-- EQ after a `csr mov` read of the bit `b` (R135). -/
def testedEq (b : Bool) : Bool := !b

/-- GT after a `csr mov` read of the bit `b` (R135). -/
def testedGt (b : Bool) : Bool := b

/-- The flags as `r13` receives them (R164): two bits of the layout, every other bit 0. -/
def packFlags (l : FlagsLayout) (eq gt : Bool) : Word :=
  setBit (setBit 0#32 l.eqBit.toNat eq) l.gtBit.toNat gt

/-- EQ as `iret` reads it from `r13` (R132, R164). -/
def unpackEq (l : FlagsLayout) (w : Word) : Bool := w.getLsbD l.eqBit.toNat

/-- GT as `iret` reads it from `r13` (R132, R164). -/
def unpackGt (l : FlagsLayout) (w : Word) : Bool := w.getLsbD l.gtBit.toNat

end Sys2Proof.Machine
end

