-- ==== Sys2Proof/Machine/State.lean ====
section
/-!
DEFINITION. The machine's state as plain data (spec/10_state.md R10 to R31, spec/61_devices.md), the
environment's inputs (spec/00_scope.md R6, spec/61_devices.md R203), the reasons a step stops, and
the state after reset (spec/70_reset_and_hazards.md R260, spec/10_state.md R31).
-/

namespace Sys2Proof.Machine

/-! ### Reasons to stop -/

/-- The model's faults (spec/60_exceptions.md R151). None is an event of the chip: each is a place
where the spec gives no next state, so each is safe (the model stops, it never invents a state). -/
inductive Fault where
  /-- Opcodes 22 to 31; raised by the fetch of such a word (R71). Safe. -/
  | reservedOpcode
  /-- Modifier 11 of an immediate form; raised by the fetch of such a word (R72). Safe. -/
  | reservedModifier
  /-- An unassigned bit is 1 under `UNUSED_BITS_POLICY = refuse`; raised by the fetch (R73). Safe. -/
  | nonzeroUnusedBits
  /-- `csr mov` on an index the spec does not define; raised by the six CSR instructions (R27). Safe. -/
  | undefinedCsr
  /-- A `csr mov` operation the spec does not define; raised by the fetch of such a word (R138). Safe. -/
  | undefinedCsrOperation
  /-- `ld` or `st` to an address that is in no range of the map; raised by them (R46). Safe. -/
  | unmappedAddress
  /-- A store into the loaded program under the guard of R55; raised by `st`. Safe. -/
  | storeToCode
  /-- A fetch outside the `IMEM_WORDS` words; raised by the fetch (R15, R41). Safe. -/
  | fetchOutOfRange
  /-- A fetch of a word inside the instruction memory that no loader has placed; raised by the fetch
  (notes/assumptions/6.md). Safe. -/
  | fetchUnwritten
  /-- A pc that is not a multiple of 4 under `PC_STEP = 4`; raised by the fetch, `ret` and `iret`
  (R16). Safe. -/
  | misalignedPc
  /-- The machine has executed `hlt` and the watchdog is disabled: there is no step; raised by `step`
  (R6, R130). Safe. -/
  | halted
deriving DecidableEq, Repr

/-- The model's refusals. -/
inductive Refusal where
  /-- The instruction has no meaning in this model; no arm of `exec` answers it. Safe. -/
  | notModelled (mnemonic : String)
  /-- A `csr mov` set aimed at a reserved bit: the program is outside the software contract and the
  spec says that the model refuses it (R25, 93_implementation_defined.md U9); raised by the two set
  instructions. Safe. -/
  | reservedCsrBit
deriving DecidableEq, Repr

/-! ### Memory -/

/-- A sparse memory: byte lanes by key, keys strictly rising. Lane `l` of the 32-bit cell (or
instruction word) number `a` has the key `4 * a + l`. An unlisted lane has no value in the list; what
it reads as is said by `State.ramLane` and `fetchWord` (notes/assumptions/4.md, 6.md). -/
abbrev Memory := List Host.Cell

/-- The canonical form: keys strictly rising. -/
abbrev Memory.wf (m : Memory) : Prop := m.Pairwise (fun x y => x.1 < y.1)

/-! ### The bus and the devices -/

/-- The state of the APB controller (R200, R201). Between two steps it is `idle`, or `access` while a
load or store waits for a device that answers `PREADY = 0` (R53). -/
inductive ApbState where
  | idle
  | setup
  | access
deriving DecidableEq, Repr

/-- PWM (R210, R211). -/
structure Pwm where
  /-- the control word last stored at 0x00010000 -/
  reg : Word
  /-- the 12-bit terminal count PR -/
  pr : BitVec 12
  /-- the 12-bit counter TMR -/
  tmr : BitVec 12
  /-- the duty cycle master register -/
  dutyMaster : BitVec 12
  /-- the duty cycle slave register, `duty_cycle_out` -/
  dutySlave : BitVec 12
  /-- the SR latch, the output level -/
  out : Bool
deriving DecidableEq, Repr

/-- UART (R220 to R226). -/
structure Uart where
  txreg : Word
  /-- transmit interrupt flag, also the UART's `PREADY` (R221) -/
  txif : Bool
  /-- the stored word is still being sent -/
  txPending : Bool
  /-- bytes of `txreg` moved to the shift register so far -/
  txSent : Nat
  /-- the transmit shift register: a frame of start bit, 8 data bits, stop bit -/
  tsr : BitVec 10
  /-- bits of the frame still to send; 0 when the transmitter is idle (`TSR_Ready`) -/
  tsrBits : Nat
  /-- the level on TX -/
  txLine : Bool
  rcreg : Byte
  /-- receive interrupt flag -/
  rxif : Bool
  /-- the receive shift register -/
  rxShift : Byte
  /-- 0: waiting for a start bit; 1 to 8: data bits; 9: stop bit -/
  rxCount : Nat
  /-- `pullup_en`: the last stop bit was invalid, and RX is forced high -/
  pullupEn : Bool
deriving DecidableEq, Repr

/-- The SPI's four states (R231). -/
inductive SpiFsm where
  | idle
  | assignCs
  | transmission
  | ending
deriving DecidableEq, Repr

/-- SPI (R230 to R238); its three status bits are `csr[2]` bits 10:8. -/
structure Spi where
  fsm : SpiFsm
  startCommand : Bool
  /-- the external master has asserted `cs` (slave mode, R238) -/
  slaveEnable : Bool
  /-- the write buffer -/
  buffer : Word
  shiftReg : Word
  /-- the newer received word -/
  buffer1 : Word
  /-- the older received word -/
  buffer2 : Word
  bitCnt : Nat
  mosi : Bool
  /-- `phase`: high for state transitions and sampling, low for driving MOSI (R231) -/
  phase : Bool
  /-- `clock`, from which SCLK is made (R238) -/
  clock : Bool
deriving DecidableEq, Repr

/-- Programmable timer (R240 to R245); TMCON stands in `State.tmcon`. -/
structure Timer where
  count : BitVec 16
  intFlag : Bool
  /-- the 8-bit toggle flip-flop chain `T_FF_freq_div` (R245) -/
  chain : BitVec 8
deriving DecidableEq, Repr

/-- GPIO (R250 to R253). -/
structure Gpio where
  /-- direction: 0 output, 1 input -/
  tris : BitVec 16
  /-- output data -/
  port : BitVec 16
  /-- the read latch -/
  latch : BitVec 16
  /-- the levels the outside drives (environment) -/
  ext : BitVec 16
  /-- the output pins the outside overdrives (environment, R253) -/
  overdrive : BitVec 16
deriving DecidableEq, Repr

/-- Watchdog (R180 to R183); EN and the prescaler are `csr[4]`. -/
structure Watchdog where
  /-- `freq_div`: system clock cycles since the last `watch_clk` cycle -/
  divider : Nat
  /-- `watch_clk` cycles since the last refresh -/
  count : Nat
  /-- `watchdog_rst_counter`: consecutive cycles in which the pc changed -/
  activity : Nat
  /-- the pc at the last boundary, with which the activity monitor sees a change (R182) -/
  lastPc : Word
  /-- the output `pc_rst` -/
  pcRst : Bool
deriving DecidableEq, Repr

/-! ### The environment (R6 item 2, R156, R203) -/

/-- A clock edge at the timer's inputs (R241 EDGE and CLK_SRC). -/
inductive ClockEdge where
  | internal
  | externalRising
  | externalFalling
deriving DecidableEq, Repr

/-- One thing the environment may do between two instructions. -/
inductive EnvEvent where
  /-- the interrupt of a source occurs: its flag is set (R156) -/
  | setFlag (src : Source)
  /-- one edge at the timer's clock inputs (R244) -/
  | timerClock (edge : ClockEdge)
  /-- one edge of the PWM's prescaled clock (R211) -/
  | pwmTick
  /-- one transmit bit time of the UART (R222) -/
  | uartTxTick
  /-- one receive bit time of the UART with the level on RX (R226) -/
  | uartRxBit (level : Bool)
  /-- the external master drives `cs`: true is asserted, `cs = 0` (R238) -/
  | spiSelect (asserted : Bool)
  /-- one edge of the SPI's `prescale_clk` (in slave mode of the external clock) with the level on MISO (R231, R233) -/
  | spiClock (miso : Bool)
  /-- the outside drives the GPIO pins (R253) -/
  | pins (level overdrive : BitVec 16)
  /-- one system clock cycle of the watchdog; whether the pc changed in it, which it cannot where the last step
  left the pc as it was (R182) -/
  | watchdogCycle (pcChanged : Bool)
  /-- the watchdog fires; no effect unless EN = 1 (R184) -/
  | watchdogFire
deriving DecidableEq, Repr

/-- What the environment does at one instruction boundary, in order, and whether the hardware samples
the interrupt pins there (R160: it need not take a request at the first boundary). -/
structure Boundary where
  events : List EnvEvent
  samples : Bool
deriving DecidableEq, Repr

/-- A boundary at which nothing happens and the pins are sampled. -/
def Boundary.quiet : Boundary := ⟨[], true⟩

/-! ### State -/

/-- The whole machine. INVENTORY.md lists each field with its rule and its reset value. -/
structure State where
  /-- `r0` to `r15` (R10, R11) -/
  regs : Vector Word 16
  /-- program counter (R14) -/
  pc : Word
  /-- flag EQ (R17) -/
  flagEq : Bool
  /-- flag GT (R17) -/
  flagGt : Bool
  /-- `hlt` has executed (R30, R130) -/
  halted : Bool
  /-- `csr[1]`, I2C control, 9 bits (R20) -/
  csr1 : BitVec 9
  /-- `csr[2]`, SPI control, 11 bits (R21) -/
  csr2 : BitVec 11
  /-- `csr[3]`, UART control, 8 bits (R22) -/
  csr3 : BitVec 8
  /-- `csr[4]`, watchdog control, 5 bits (R23) -/
  csr4 : BitVec 5
  /-- `csr[5]`, interrupt control, 22 bits (R24); bit 20 has no storage, a read computes it (R158) -/
  csr5 : BitVec 22
  /-- TMCON, 7 bits (R241); reached by `csr mov` only where `TMCON_CSR` is supplied (R26) -/
  tmcon : BitVec 7
  /-- data memory (R43, R44) -/
  ram : Memory
  /-- instruction memory (R41) -/
  imem : Memory
  /-- APB controller (R201) -/
  bus : ApbState
  /-- PWM (R210) -/
  pwm : Pwm
  /-- UART (R220) -/
  uart : Uart
  /-- SPI (R230) -/
  spi : Spi
  /-- timer (R240) -/
  timer : Timer
  /-- GPIO (R250) -/
  gpio : Gpio
  /-- watchdog (R180) -/
  wdt : Watchdog
  /-- MODEL: the environment's inputs still to come, the next boundary first (notes/assumptions/7.md) -/
  inputs : List Boundary
  /-- MODEL: free values drawn so far (notes/assumptions/2.md) -/
  freeCount : Nat
  /-- MODEL: resets so far, so that data memory is `any` again after each (notes/assumptions/4.md) -/
  epoch : Nat
  /-- MODEL: the configuration record of R3; no step changes it (notes/assumptions/1.md) -/
  cfg : Config
deriving DecidableEq, Repr

/-- What every instruction's meaning answers. -/
abbrev Result := Host.Outcome State Fault Refusal

/-! ### Reset -/

/-- The watchdog enable EN of `csr[4]`: bit 3 or 4 by `WDT_EN_BIT` (R23). -/
def State.watchdogEnabled (s : State) : Bool :=
  match s.cfg.wdtEnBit with
  | .bit3 => s.csr4.getLsbD 3
  | .bit4 => s.csr4.getLsbD 4

/-- Reset over a state that supplies every value the spec leaves unspecified: writes what R31 and R260 state.
`csr[5]` gets GIEH and GIEL (bits 17 and 16), `csr[2]` loses bits 10:8; data memory lists nothing; the PWM, SPI and
timer values are those of R214, R238 and R242; the watchdog's divider and timer are cleared where EN = 0 (R183).
Beyond those rules, as DESIGN CHOICE: the bus is IDLE (notes/assumptions/13.md), and `pc_rst` falls with the reset
it caused, where EN = 1 too (notes/assumptions/14.md). -/
def State.applyReset (u : State) : State :=
  { u with
    pc := u.cfg.resetPc
    halted := false
    csr2 := u.csr2 &&& 0x0FF#11
    csr5 := (u.csr5 ||| 0x030000#22) &&& 0x2FFFFF#22
    ram := []
    bus := .idle
    pwm := { u.pwm with tmr := 0#12, dutyMaster := 0#12, pr := 0xFFF#12 }
    spi := { u.spi with
      fsm := .idle, startCommand := false
      buffer := 0#32, buffer1 := 0#32, buffer2 := 0#32 }
    timer := { u.timer with count := 0#16, intFlag := false }
    wdt := if u.watchdogEnabled then { u.wdt with pcRst := false }
      else { u.wdt with divider := 0, count := 0, pcRst := false } }

/-- The values the model names for what the spec leaves unspecified at power-up: zero throughout, but
for the UART's TXIF (the transmitter is ready) and the idle level 1 of TX, to which R223 and R226 point.
Every one is a DESIGN CHOICE (notes/assumptions/10.md to 13.md, unsafe). -/
def State.blank (c : Config) : State where
  regs := Vector.replicate 16 0#32
  pc := c.resetPc
  flagEq := false
  flagGt := false
  halted := false
  csr1 := 0#9
  csr2 := 0#11
  csr3 := 0#8
  csr4 := 0#5
  csr5 := 0#22
  tmcon := 0#7
  ram := []
  imem := []
  bus := .idle
  pwm := ⟨0#32, 0#12, 0#12, 0#12, 0#12, false⟩
  uart := ⟨0#32, true, false, 0, 0#10, 0, true, 0#8, false, 0#8, 0, false⟩
  spi := ⟨.idle, false, false, 0#32, 0#32, 0#32, 0#32, 0, false, false, false⟩
  timer := ⟨0#16, false, 0#8⟩
  gpio := ⟨0#16, 0#16, 0#16, 0#16, 0#16⟩
  wdt := ⟨0, 0, 0, 0#32, false⟩
  inputs := []
  freeCount := 0
  epoch := 0
  cfg := c

/-- The machine right after reset, under the configuration `c`. -/
def State.resetWith (c : Config) : State := (State.blank c).applyReset

/-- The machine right after reset (R260, R31), with no program loaded (notes/assumptions/6.md). -/
def State.reset : State := State.resetWith Config.default

end Sys2Proof.Machine
end

