-- ==== Sys2Proof/Syntax.lean ====
section
/-!
DEFINITION. The instructions: one constructor for each of the 42 rows of spec/opcode_table.json
(spec/30_encoding.md R61, R62, R67, R69).
-/

namespace Sys2Proof

/-- The three defined values of the immediate modifier, `bits[17:16]` (R64); 11 is not defined (R72). -/
inductive Modifier where
  /-- 00, signed lower immediate -/
  | signed
  /-- 01, unsigned lower immediate -/
  | unsigned
  /-- 10, upper immediate -/
  | upper
deriving DecidableEq, Repr

/-- One constructor per row of spec/opcode_table.json. `…Reg` is the register format, `…Imm` the
immediate format of a starred instruction (R61, R62). `k` is bits 25:22 of the word of a `csr mov`, its CSR index under
the default `CSR_SELECT` (R67, R68). -/
inductive Instr where
  | addReg (rd rs1 rs2 : Reg)
  | addImm (rd rs1 : Reg) (m : Modifier) (imm : BitVec 16)
  | subReg (rd rs1 rs2 : Reg)
  | subImm (rd rs1 : Reg) (m : Modifier) (imm : BitVec 16)
  | hlt
  | xorReg (rd rs1 rs2 : Reg)
  | xorImm (rd rs1 : Reg) (m : Modifier) (imm : BitVec 16)
  | aslReg (rd rs1 rs2 : Reg)
  | aslImm (rd rs1 : Reg) (m : Modifier) (imm : BitVec 16)
  | cmpReg (rs1 rs2 : Reg)
  | cmpImm (rs1 : Reg) (m : Modifier) (imm : BitVec 16)
  | andReg (rd rs1 rs2 : Reg)
  | andImm (rd rs1 : Reg) (m : Modifier) (imm : BitVec 16)
  | orReg (rd rs1 rs2 : Reg)
  | orImm (rd rs1 : Reg) (m : Modifier) (imm : BitVec 16)
  | notReg (rd rs2 : Reg)
  | notImm (rd : Reg) (m : Modifier) (imm : BitVec 16)
  | movReg (rd rs2 : Reg)
  | movImm (rd : Reg) (m : Modifier) (imm : BitVec 16)
  | lslReg (rd rs1 rs2 : Reg)
  | lslImm (rd rs1 : Reg) (m : Modifier) (imm : BitVec 16)
  | lsrReg (rd rs1 rs2 : Reg)
  | lsrImm (rd rs1 : Reg) (m : Modifier) (imm : BitVec 16)
  | asrReg (rd rs1 rs2 : Reg)
  | asrImm (rd rs1 : Reg) (m : Modifier) (imm : BitVec 16)
  | nop
  | ldReg (rd rs1 rs2 : Reg)
  | ldImm (rd rs1 : Reg) (m : Modifier) (imm : BitVec 16)
  | stReg (rd rs1 rs2 : Reg)
  | stImm (rd rs1 : Reg) (m : Modifier) (imm : BitVec 16)
  | beq (offset : BitVec 27)
  | bgt (offset : BitVec 27)
  | b (offset : BitVec 27)
  | call (offset : BitVec 27)
  | ret
  | iret
  | csrReadLo (k : BitVec 4) (mask : BitVec 16)
  | csrReadHi (k : BitVec 4) (mask : BitVec 16)
  | csrSetLo (k : BitVec 4) (mask : BitVec 16)
  | csrSetHi (k : BitVec 4) (mask : BitVec 16)
  | csrClearLo (k : BitVec 4) (mask : BitVec 16)
  | csrClearHi (k : BitVec 4) (mask : BitVec 16)
deriving DecidableEq, Repr

end Sys2Proof
end

