-- ==== Sys2Proof/Machine/Operands.lean ====
section
/-!
DEFINITION. Every operand form of the spec: the extended immediate (spec/30_encoding.md R64), the
second operand of a starred instruction (R66), the effective address (spec/42_load_store.md R112), the
shift amount (spec/41_shift.md R100), the branch target (spec/43_branch.md R120) and the placed mask of
a `csr mov` (spec/44_system.md R134, R137).
-/

namespace Sys2Proof.Machine

/-- The value of general register `r` (R5, R11: no register is hardwired). -/
def State.reg (s : State) (r : Reg) : Word := s.regs[r.toNat]'r.isLt

/-- `imm32(m, v)` of R64. -/
def imm32 : Modifier → BitVec 16 → Word
  | .signed, v => v.signExtend 32
  | .unsigned, v => v.zeroExtend 32
  | .upper, v => v ++ 0#16

/-- `op2` of the register form (R66). -/
def State.op2Reg (s : State) (rs2 : Reg) : Word := s.reg rs2

/-- `op2` of the immediate form (R66). -/
def op2Imm (m : Modifier) (v : BitVec 16) : Word := imm32 m v

/-- The effective address of a load or store (R112): a cell number, wrapping modulo 2^32. -/
def State.effectiveAddress (s : State) (rs1 : Reg) (op2 : Word) : Word := s.reg rs1 + op2

/-- The effective shift amount (R100). Under `full` an amount of 32 or more acts as 32: every bit of
the operand has left the word. -/
def shiftAmount (m : ShamtMode) (op2 : Word) : Nat :=
  match m with
  | .low5 => (op2.extractLsb' 0 5).toNat
  | .full => min op2.toNat 32

/-- The branch target (R120): relative to the branch's own pc, in units of `PC_STEP`. -/
def State.branchTarget (s : State) (offset : BitVec 27) : Word :=
  s.pc + offset.signExtend 32 * s.cfg.pcStep.toWord

/-- The half of a CSR a `csr mov` mask is placed in (R134). -/
inductive Half where
  | lower
  | upper
deriving DecidableEq, Repr

/-- `P` of R134: the mask in its half, zeros in the other. -/
def placeMask : Half → BitVec 16 → Word
  | .lower, v => 0#16 ++ v
  | .upper, v => v ++ 0#16

/-- The word a `csr mov` clear ANDs in (R137): ones in the other half under either polarity. -/
def clearOperand (p : ClearPolarity) (h : Half) (v : BitVec 16) : Word :=
  match p, h with
  | .andMask, .lower => 0xFFFF#16 ++ v
  | .andMask, .upper => v ++ 0xFFFF#16
  | .selectMask, _ => ~~~(placeMask h v)

end Sys2Proof.Machine
end

