-- ==== Sys2Proof/Machine/Ops.lean ====
section
/-!
DEFINITION. The named operations over the state that the meanings share: registers, pc and flags, free
values, memory lanes and cells, the CSR file (spec/44_system.md R134 to R137), taking an interrupt
(spec/60_exceptions.md R153 to R162), returning from one (spec/44_system.md R132), and the watchdog
reset (spec/70_reset_and_hazards.md R262).
-/

namespace Sys2Proof.Machine

/-! ### Registers, pc, flags, halt -/

/-- `x[r] <- v` (R5). -/
def State.setReg (s : State) (r : Reg) (v : Word) : State :=
  { s with regs := s.regs.set r.toNat v r.isLt }

/-- `pc <- t` (R5). -/
def State.jump (s : State) (t : Word) : State := { s with pc := t }

/-- The address of the next instruction, `(pc + PC_STEP) mod 2^32` (R15). -/
def State.nextPc (s : State) : Word := s.pc + s.cfg.pcStep.toWord

/-- The end of every instruction that is not a taken control transfer (R15). -/
def State.advance (s : State) : State := s.jump s.nextPc

/-- Write both flags. -/
def State.setFlags (s : State) (eq gt : Bool) : State := { s with flagEq := eq, flagGt := gt }

/-- `state <- halt` (R130). -/
def State.halt (s : State) : State := { s with halted := true }

/-- An address is a possible pc: a multiple of `PC_STEP` (R16). -/
def pcAligned (c : Config) (t : Word) : Bool := t.toNat % c.pcStep.toNat == 0

/-- The end of an arithmetic, logical, move or shift instruction: write `rd`, advance (R89, R100). -/
def State.writeResult (s : State) (rd : Reg) (v : Word) : Result := .next (s.setReg rd v).advance

/-- `cmp` of two values: both flags, no register (R97). -/
def State.compare (s : State) (a b : Word) : Result :=
  .next (s.setFlags (compareEq a b) (compareGt a b)).advance

/-! ### Free values (R5 `any`) -/

/-- The next free value. -/
def State.free (s : State) : Word := Config.freeWord s.freeCount

/-- The state after one free value has been drawn. -/
def State.drawn (s : State) : State := { s with freeCount := s.freeCount + 1 }

/-! ### Memory -/

/-- The byte lane a memory lists at a key, if any. -/
def Memory.read : Memory → Nat → Option Byte
  | [], _ => none
  | (k, b) :: m, a => if k = a then some b else Memory.read m a

/-- Write one byte lane, keeping the keys strictly rising. -/
def Memory.write : Memory → Nat → Byte → Memory
  | [], a, v => [(a, v)]
  | (k, b) :: m, a, v =>
    if a < k then (a, v) :: (k, b) :: m
    else if a = k then (a, v) :: m
    else (k, b) :: Memory.write m a v

/-- Write the four byte lanes of word number `n`. -/
def Memory.writeWord (m : Memory) (n : Nat) (v : Word) : Memory :=
  (((m.write (4 * n) (v.extractLsb' 0 8)).write (4 * n + 1) (v.extractLsb' 8 8)).write
    (4 * n + 2) (v.extractLsb' 16 8)).write (4 * n + 3) (v.extractLsb' 24 8)

/-- What one byte lane of data memory reads as: the lane last stored, or `any` if none was stored
since reset (R44). -/
def State.ramLane (s : State) (key : Nat) : Byte :=
  (s.ram.read key).getD (Config.initialByte s.epoch key)

/-- What a cell of data memory reads as (R44); byte lanes carry no meaning of their own (R48). -/
def State.ramCell (s : State) (a : Word) : Word :=
  s.ramLane (4 * a.toNat + 3) ++ s.ramLane (4 * a.toNat + 2) ++ s.ramLane (4 * a.toNat + 1) ++
    s.ramLane (4 * a.toNat)

/-- Cell `a` of data memory holds `v` afterwards (R45). -/
def State.setRamCell (s : State) (a : Word) (v : Word) : State :=
  { s with ram := s.ram.writeWord a.toNat v }

/-! ### The CSR file (R19 to R27, R134 to R137) -/

/-- The CSRs `csr mov` reaches (R19, R26). -/
inductive Csr where
  | i2c
  | spi
  | uart
  | watchdog
  | intcon
  | tmcon
deriving DecidableEq, Repr

/-- The CSR an index names (R19, R26, R27). -/
def csrAt (c : Config) (k : BitVec 4) : Option Csr :=
  match k.toNat with
  | 1 => some .i2c
  | 2 => some .spi
  | 3 => some .uart
  | 4 => some .watchdog
  | 5 => some .intcon
  | _ => if c.tmconCsr = some k then some .tmcon else none

/-- The bits that exist; every other one is reserved (R19, R21 to R24, R241). -/
def Csr.present : Csr → Word
  | .i2c => 0x000001FF#32
  | .spi => 0x000007FF#32
  | .uart => 0x000000FF#32
  | .watchdog => 0x0000001F#32
  | .intcon => 0x003FFFFF#32
  | .tmcon => 0x0000007F#32

/-- The bits a set can make 1: access RW (R25; `csr[2]` bits 10:8 are the SPI module's, R21). Of `csr[4]` bits 3 and
4 the one that is not EN is plain storage, settable, clearable and without effect: a DESIGN CHOICE, since R23 does not
say what it is (notes/assumptions/32.md). -/
def Csr.settable : Csr → Word
  | .i2c => 0x000001FF#32
  | .spi => 0x000000FF#32
  | .uart => 0x000000FF#32
  | .watchdog => 0x0000001F#32
  | .intcon => 0x0003AAAA#32
  | .tmcon => 0x0000007F#32

/-- The bits a clear can make 0: access RW or R-Clr (R25). -/
def Csr.clearable : Csr → Word
  | .i2c => 0x000001FF#32
  | .spi => 0x000000FF#32
  | .uart => 0x000000FF#32
  | .watchdog => 0x0000001F#32
  | .intcon => 0x0003FFFF#32
  | .tmcon => 0x0000007F#32

/-- The stored bits of a CSR. -/
def State.csrStored (s : State) : Csr → Word
  | .i2c => s.csr1.zeroExtend 32
  | .spi => s.csr2.zeroExtend 32
  | .uart => s.csr3.zeroExtend 32
  | .watchdog => s.csr4.zeroExtend 32
  | .intcon => s.csr5.zeroExtend 32
  | .tmcon => s.tmcon.zeroExtend 32

/-- Write the stored bits of a CSR. -/
def State.setCsrStored (s : State) (c : Csr) (w : Word) : State :=
  match c with
  | .i2c => { s with csr1 := w.setWidth 9 }
  | .spi => { s with csr2 := w.setWidth 11 }
  | .uart => { s with csr3 := w.setWidth 8 }
  | .watchdog => { s with csr4 := w.setWidth 5 }
  | .intcon => { s with csr5 := w.setWidth 22 }
  | .tmcon => { s with tmcon := w.setWidth 7 }

/-! ### The interrupt controller (R152 to R158) -/

/-- The number `i` of a source (R24). -/
def sourceIndex : Source → Nat
  | .eInt0 => 0
  | .eInt1 => 1
  | .eInt2 => 2
  | .eInt3 => 3
  | .uart => 4
  | .spi => 5
  | .i2c => 6
  | .timer => 7

/-- The eight sources (R152). -/
def allSources : List Source := [.eInt0, .eInt1, .eInt2, .eInt3, .uart, .spi, .i2c, .timer]

/-- `valid[i]`: flag AND enable (R153). -/
def State.validSource (s : State) (i : Source) : Bool :=
  s.csr5.getLsbD (2 * sourceIndex i) && s.csr5.getLsbD (2 * sourceIndex i + 1)

/-- `any_high` (R154). -/
def State.anyHigh (s : State) : Bool :=
  allSources.any fun i => decide (i ∈ s.cfg.highGroup) && s.validSource i

/-- `any_low` (R154), which is also `low_pending` (R158). -/
def State.anyLow (s : State) : Bool :=
  allSources.any fun i => decide (i ∉ s.cfg.highGroup) && s.validSource i

/-- `interrupt_pin_high` (R154). -/
def State.pinHigh (s : State) : Bool := s.anyHigh

/-- `interrupt_pin_low` (R154). -/
def State.pinLow (s : State) : Bool := s.anyLow && !s.anyHigh

/-- GIEH, `csr[5]` bit 17 (R24). -/
def State.gieh (s : State) : Bool := s.csr5.getLsbD 17
/-- GIEL, `csr[5]` bit 16 (R24). -/
def State.giel (s : State) : Bool := s.csr5.getLsbD 16
/-- `low_int_active`, `csr[5]` bit 18 (R24). -/
def State.lowActive (s : State) : Bool := s.csr5.getLsbD 18
/-- `high_int_active`, `csr[5]` bit 19 (R24). -/
def State.highActive (s : State) : Bool := s.csr5.getLsbD 19
/-- `is_nested_interrupt`, `csr[5]` bit 21 (R24). -/
def State.nested (s : State) : Bool := s.csr5.getLsbD 21

/-- The occurrence of a source's interrupt sets its flag (R156). -/
def State.raiseFlag (s : State) (i : Source) : State :=
  { s with csr5 := setBit s.csr5 (2 * sourceIndex i) true }

/-- What a read of a CSR sees: the stored bits, with bit 20 of `csr[5]` computed (R158). -/
def State.csrRead (s : State) : Csr → Word
  | .intcon => setBit (s.csr5.zeroExtend 32) 20 s.anyLow
  | c => s.csrStored c

/-! ### `csr mov` (R134 to R137) -/

/-- Read: test one bit into the flags (R135). The tested bit is `any` for a reserved bit (R25, U18), and
both flags are `any` for a mask that has not exactly one bit set (U7). -/
def State.csrTest (s : State) (k : BitVec 4) (h : Half) (v : BitVec 16) : Result :=
  match csrAt s.cfg k with
  | none => .fault .undefinedCsr
  | some c =>
    let p := placeMask h v
    if oneHotWord p then
      if p &&& c.present = 0#32 then
        .next (s.drawn.setFlags (testedEq (s.free.getLsbD 0)) (testedGt (s.free.getLsbD 0))).advance
      else
        .next (s.setFlags (testedEq (s.csrRead c &&& p != 0#32))
          (testedGt (s.csrRead c &&& p != 0#32))).advance
    else .next (s.drawn.setFlags (s.free.getLsbD 0) (s.free.getLsbD 1)).advance

/-- Set: OR the placed mask in, RW bits alone changing (R136); a mask that aims at a reserved bit is
refused (R25, U9). -/
def State.csrSet (s : State) (k : BitVec 4) (h : Half) (v : BitVec 16) : Result :=
  match csrAt s.cfg k with
  | none => .fault .undefinedCsr
  | some c =>
    if placeMask h v &&& ~~~c.present = 0#32 then
      .next (s.setCsrStored c (s.csrStored c ||| (placeMask h v &&& c.settable))).advance
    else .refused .reservedCsrBit

/-- Clear: AND the operand in, RW and R-Clr bits alone changing (R137). -/
def State.csrClear (s : State) (k : BitVec 4) (h : Half) (v : BitVec 16) : Result :=
  match csrAt s.cfg k with
  | none => .fault .undefinedCsr
  | some c =>
    .next (s.setCsrStored c
      (s.csrStored c &&& (clearOperand s.cfg.clearPolarity h v ||| ~~~c.clearable))).advance

/-! ### Taking an interrupt, and returning from one -/

/-- The two interrupt entries (R160). -/
inductive Level where
  | high
  | low
deriving DecidableEq, Repr

/-- Which entry is due: high first, then low, each gated by its global enable (R155, R160). -/
def State.dueInterrupt (s : State) : Option Level :=
  if s.pinHigh && s.gieh then some .high
  else if s.pinLow && s.giel then some .low
  else none

/-- `csr[5]` after an entry (R161, R162). -/
def csr5AfterEntry (l : Level) (c : BitVec 22) : BitVec 22 :=
  match l with
  | .high =>
    setBit (setBit (setBit (if c.getLsbD 18 then setBit c 21 true else c) 17 false) 16 false) 19 true
  | .low => setBit (setBit c 16 false) 18 true

/-- The entry address of a level (R165). -/
def vectorOf (c : Config) : Level → Word
  | .high => c.ivtHigh
  | .low => c.ivtLow

/-- Taking an interrupt (R161, R162): `r12` saves the pc, `r13` the flags, `csr[5]` changes, the pc goes
to the level's vector. -/
def State.enterInterrupt (s : State) (l : Level) : State :=
  ({ (s.setReg 12#4 s.pc).setReg 13#4 (packFlags s.cfg.flagsLayout s.flagEq s.flagGt) with
      csr5 := csr5AfterEntry l s.csr5 }).jump (vectorOf s.cfg l)

/-- `csr[5]` after `iret` (R132): the innermost active level ends. -/
def csr5AfterReturn (c : BitVec 22) : BitVec 22 :=
  if c.getLsbD 19 then
    let d := setBit (setBit c 19 false) 17 true
    if c.getLsbD 21 then d else setBit d 16 true
  else if c.getLsbD 18 then
    setBit (setBit (setBit (setBit c 18 false) 21 false) 17 true) 16 true
  else c

/-- The return from an interrupt (R132): pc from `r12`, flags from `r13`, then `csr[5]`. -/
def State.returnFromInterrupt (s : State) : Result :=
  if pcAligned s.cfg (s.reg 12#4) then
    .next (({ s with csr5 := csr5AfterReturn s.csr5 }).setFlags
      (unpackEq s.cfg.flagsLayout (s.reg 13#4)) (unpackGt s.cfg.flagsLayout (s.reg 13#4))
      |>.jump (s.reg 12#4))
  else .fault .misalignedPc

/-! ### The watchdog reset (R262) -/

/-- Every value the spec leaves unspecified at reset, made free (R261, U15). The instruction memory, the
configuration, the inputs and the levels the outside drives are not the processor's to reset. -/
def State.scramble (s : State) : State :=
  let f (i : Nat) : Word := Config.freeWord (s.freeCount + i)
  { s with
    regs := Vector.ofFn fun i => f i.val
    flagEq := (f 16).getLsbD 0
    flagGt := (f 16).getLsbD 1
    csr1 := (f 17).setWidth 9
    csr2 := (f 18).setWidth 11
    csr3 := (f 19).setWidth 8
    csr4 := (f 20).setWidth 5
    csr5 := (f 21).setWidth 22
    tmcon := (f 22).setWidth 7
    pwm := { s.pwm with
      reg := f 23, dutySlave := (f 24).setWidth 12, out := (f 24).getLsbD 31 }
    uart := ⟨f 25, (f 26).getLsbD 0, (f 27).getLsbD 0, (f 28).toNat % 5, (f 29).setWidth 10,
      (f 30).toNat % 11, (f 26).getLsbD 1, (f 31).setWidth 8, (f 26).getLsbD 2, (f 32).setWidth 8,
      (f 33).toNat % 10, (f 26).getLsbD 3⟩
    spi := { s.spi with
      shiftReg := f 34, bitCnt := (f 35).toNat % 32, mosi := (f 26).getLsbD 4, slaveEnable := (f 26).getLsbD 5
      phase := (f 26).getLsbD 6, clock := (f 26).getLsbD 7 }
    timer := { s.timer with chain := (f 36).setWidth 8 }
    gpio := { s.gpio with
      tris := (f 37).setWidth 16, port := (f 38).setWidth 16, latch := (f 39).setWidth 16 }
    wdt := { s.wdt with
      divider := (f 40).toNat % 128, count := (f 41).toNat % 4096, activity := (f 42).toNat % 15
      lastPc := f 43 }
    freeCount := s.freeCount + 44
    epoch := s.epoch + 1 }

/-- The watchdog reset is a reset (R262): everything unspecified becomes free, the rest is R31's. -/
def State.watchdogReset (s : State) : State := s.scramble.applyReset

end Sys2Proof.Machine
end

