-- ==== Sys2Proof/Machine/Alu.lean ====
section
/-!
DEFINITION. Arithmetic, logical, move and compare instructions (spec/40_alu.md R89 to R97).
-/

namespace Sys2Proof.Machine

/-- `add rd, rs1, rs2` (R90). -/
def execAddReg (rd rs1 rs2 : Reg) (s : State) : Result :=
  s.writeResult rd (s.reg rs1 + s.op2Reg rs2)

/-- `add rd, rs1, imm` (R90). -/
def execAddImm (rd rs1 : Reg) (m : Modifier) (imm : BitVec 16) (s : State) : Result :=
  s.writeResult rd (s.reg rs1 + op2Imm m imm)

/-- `sub rd, rs1, rs2` (R91). -/
def execSubReg (rd rs1 rs2 : Reg) (s : State) : Result :=
  s.writeResult rd (s.reg rs1 - s.op2Reg rs2)

/-- `sub rd, rs1, imm` (R91). -/
def execSubImm (rd rs1 : Reg) (m : Modifier) (imm : BitVec 16) (s : State) : Result :=
  s.writeResult rd (s.reg rs1 - op2Imm m imm)

/-- `xor rd, rs1, rs2` (R92). -/
def execXorReg (rd rs1 rs2 : Reg) (s : State) : Result :=
  s.writeResult rd (s.reg rs1 ^^^ s.op2Reg rs2)

/-- `xor rd, rs1, imm` (R92). -/
def execXorImm (rd rs1 : Reg) (m : Modifier) (imm : BitVec 16) (s : State) : Result :=
  s.writeResult rd (s.reg rs1 ^^^ op2Imm m imm)

/-- `and rd, rs1, rs2` (R93). -/
def execAndReg (rd rs1 rs2 : Reg) (s : State) : Result :=
  s.writeResult rd (s.reg rs1 &&& s.op2Reg rs2)

/-- `and rd, rs1, imm` (R93). -/
def execAndImm (rd rs1 : Reg) (m : Modifier) (imm : BitVec 16) (s : State) : Result :=
  s.writeResult rd (s.reg rs1 &&& op2Imm m imm)

/-- `or rd, rs1, rs2` (R94). -/
def execOrReg (rd rs1 rs2 : Reg) (s : State) : Result :=
  s.writeResult rd (s.reg rs1 ||| s.op2Reg rs2)

/-- `or rd, rs1, imm` (R94). -/
def execOrImm (rd rs1 : Reg) (m : Modifier) (imm : BitVec 16) (s : State) : Result :=
  s.writeResult rd (s.reg rs1 ||| op2Imm m imm)

/-- `not rd, rs2` (R95). -/
def execNotReg (rd rs2 : Reg) (s : State) : Result :=
  s.writeResult rd (~~~(s.op2Reg rs2))

/-- `not rd, imm` (R95). -/
def execNotImm (rd : Reg) (m : Modifier) (imm : BitVec 16) (s : State) : Result :=
  s.writeResult rd (~~~(op2Imm m imm))

/-- `mov rd, rs2` (R96). -/
def execMovReg (rd rs2 : Reg) (s : State) : Result :=
  s.writeResult rd (s.op2Reg rs2)

/-- `mov rd, imm` (R96). -/
def execMovImm (rd : Reg) (m : Modifier) (imm : BitVec 16) (s : State) : Result :=
  s.writeResult rd (op2Imm m imm)

/-- `cmp rs1, rs2` (R97). -/
def execCmpReg (rs1 rs2 : Reg) (s : State) : Result := s.compare (s.reg rs1) (s.op2Reg rs2)

/-- `cmp rs1, imm` (R97). -/
def execCmpImm (rs1 : Reg) (m : Modifier) (imm : BitVec 16) (s : State) : Result :=
  s.compare (s.reg rs1) (op2Imm m imm)

end Sys2Proof.Machine
end

