-- ==== Sys2Proof/Machine/Branch.lean ====
section
/-!
DEFINITION. Control transfer instructions (spec/43_branch.md R120 to R125).
-/

namespace Sys2Proof.Machine

/-- `beq label`: taken when EQ is 1 (R121). -/
def execBeq (offset : BitVec 27) (s : State) : Result :=
  .next (s.jump (if s.flagEq then s.branchTarget offset else s.nextPc))

/-- `bgt label`: taken when GT is 1 (R122). -/
def execBgt (offset : BitVec 27) (s : State) : Result :=
  .next (s.jump (if s.flagGt then s.branchTarget offset else s.nextPc))

/-- `b label` (R123). -/
def execB (offset : BitVec 27) (s : State) : Result := .next (s.jump (s.branchTarget offset))

/-- `call label`: the link register takes the address after the call (R124). -/
def execCall (offset : BitVec 27) (s : State) : Result :=
  .next ((s.setReg s.cfg.linkReg s.nextPc).jump (s.branchTarget offset))

/-- `ret` (R125): through the link register; a misaligned value under `PC_STEP = 4` faults (R16). -/
def execRet (s : State) : Result :=
  if pcAligned s.cfg (s.reg s.cfg.linkReg) then .next (s.jump (s.reg s.cfg.linkReg))
  else .fault .misalignedPc

end Sys2Proof.Machine
end

