-- ==== Sys2Proof/Decode.lean ====
section
/-!
DEFINITION. The decoder and the encoder (spec/30_encoding.md R60 to R73, R86). The decoder is the
algorithm of R70, total on every 32-bit word and on every list of bytes; it refuses by name. The
encoder writes 0 in every bit no format assigns (R86).
-/

namespace Sys2Proof

/-- Why a word has no instruction. Each is raised by `decode` alone and is safe: the machine stops. -/
inductive DecodeError where
  /-- Opcodes 22 to 31 (R71). -/
  | reservedOpcode
  /-- Modifier 11 in the immediate format (R72). -/
  | reservedModifier
  /-- A bit no format assigns is 1, under `UNUSED_BITS_POLICY = refuse` (R73). -/
  | nonzeroUnusedBits
  /-- A `csr mov` whose operation bits and modifier the spec does not define (R138). -/
  | undefinedCsrOperation
  /-- Fewer than the four bytes of an instruction word (R60). -/
  | truncated
deriving DecidableEq, Repr

/-! ### Fields (R61, R67) -/

/-- `bits[31:27]` -/
def opField (w : Word) : BitVec 5 := w.extractLsb' 27 5
/-- `bits[26]`, the immediate flag `I` -/
def immFlag (w : Word) : BitVec 1 := w.extractLsb' 26 1
/-- `bits[25:22]`, `rd`, the CSR index under the default `CSR_SELECT` (R68) -/
def rdField (w : Word) : BitVec 4 := w.extractLsb' 22 4
/-- `bits[21:18]`, `rs1` -/
def rs1Field (w : Word) : BitVec 4 := w.extractLsb' 18 4
/-- `bits[17:14]`, `rs2` -/
def rs2Field (w : Word) : BitVec 4 := w.extractLsb' 14 4
/-- `bits[17:16]`, the modifier -/
def modField (w : Word) : BitVec 2 := w.extractLsb' 16 2
/-- `bits[15:0]`, the immediate and the CSR mask -/
def immField (w : Word) : BitVec 16 := w.extractLsb' 0 16
/-- `bits[26:0]`, the branch offset -/
def offsetField (w : Word) : BitVec 27 := w.extractLsb' 0 27
/-- `bits[21]`, `csr_mode` -/
def csrModeField (w : Word) : BitVec 1 := w.extractLsb' 21 1
/-- `bits[20:18]`, `{read, set, clear}` -/
def csrOpsField (w : Word) : BitVec 3 := w.extractLsb' 18 3

/-- The modifier a 2-bit code stands for (R64); 11 is not defined (R72). -/
def Modifier.ofBits (m : BitVec 2) : Option Modifier :=
  match m.toNat with
  | 0 => some .signed
  | 1 => some .unsigned
  | 2 => some .upper
  | _ => none

/-- The code of a modifier (R64). -/
def Modifier.toBits : Modifier → BitVec 2
  | .signed => 0b00#2
  | .unsigned => 0b01#2
  | .upper => 0b10#2

/-! ### Decoding (R70) -/

/-- A starred opcode: register form when `I = 0`, immediate form when `I = 1`. -/
def decodeStarred (w : Word) (reg : Reg → Reg → Reg → Instr)
    (imm : Reg → Reg → Modifier → BitVec 16 → Instr) : Except DecodeError Instr :=
  if immFlag w = 0#1 then .ok (reg (rdField w) (rs1Field w) (rs2Field w))
  else
    match Modifier.ofBits (modField w) with
    | some m => .ok (imm (rdField w) (rs1Field w) m (immField w))
    | none => .error .reservedModifier

/-- The CSR form of `mov`: the six operation and half combinations R135 to R137 define; every other one
is R138's. -/
def decodeCsr (w : Word) : Except DecodeError Instr :=
  match (csrOpsField w).toNat, (modField w).toNat with
  | 0b100, 0b01 => .ok (.csrReadLo (rdField w) (immField w))
  | 0b100, 0b10 => .ok (.csrReadHi (rdField w) (immField w))
  | 0b010, 0b01 => .ok (.csrSetLo (rdField w) (immField w))
  | 0b010, 0b10 => .ok (.csrSetHi (rdField w) (immField w))
  | 0b001, 0b00 => .ok (.csrClearLo (rdField w) (immField w))
  | 0b001, 0b10 => .ok (.csrClearHi (rdField w) (immField w))
  | _, _ => .error .undefinedCsrOperation

/-- `mov`: the CSR form when `I = 1` and `bits[21] = 1`, else a starred instruction whose `rs1` field
no format assigns (R70, R73). -/
def decodeMov (w : Word) : Except DecodeError Instr :=
  if immFlag w = 1#1 ∧ csrModeField w = 1#1 then decodeCsr w
  else decodeStarred w (fun rd _ rs2 => .movReg rd rs2) (fun rd _ m v => .movImm rd m v)

/-- The opcode map of R69 and R70, with every bit no format assigns ignored. -/
def decodeFields (w : Word) : Except DecodeError Instr :=
  match (opField w).toNat with
  | 0b00000 => decodeStarred w .addReg .addImm
  | 0b00001 => decodeStarred w .subReg .subImm
  | 0b00010 => .ok .hlt
  | 0b00011 => decodeStarred w .xorReg .xorImm
  | 0b00100 => decodeStarred w .aslReg .aslImm
  | 0b00101 => decodeStarred w (fun _ rs1 rs2 => .cmpReg rs1 rs2) (fun _ rs1 m v => .cmpImm rs1 m v)
  | 0b00110 => decodeStarred w .andReg .andImm
  | 0b00111 => decodeStarred w .orReg .orImm
  | 0b01000 => decodeStarred w (fun rd _ rs2 => .notReg rd rs2) (fun rd _ m v => .notImm rd m v)
  | 0b01001 => decodeMov w
  | 0b01010 => decodeStarred w .lslReg .lslImm
  | 0b01011 => decodeStarred w .lsrReg .lsrImm
  | 0b01100 => decodeStarred w .asrReg .asrImm
  | 0b01101 => .ok .nop
  | 0b01110 => decodeStarred w .ldReg .ldImm
  | 0b01111 => decodeStarred w .stReg .stImm
  | 0b10000 => .ok (.beq (offsetField w))
  | 0b10001 => .ok (.bgt (offsetField w))
  | 0b10010 => .ok (.b (offsetField w))
  | 0b10011 => .ok (.call (offsetField w))
  | 0b10100 => .ok .ret
  | 0b10101 => .ok .iret
  | _ => .error .reservedOpcode

/-- The bits no format assigns, as a mask over the instruction's word (R73). -/
def Instr.unusedMask : Instr → Word
  | .addReg .. | .subReg .. | .xorReg .. | .aslReg .. | .andReg .. | .orReg .. | .lslReg ..
  | .lsrReg .. | .asrReg .. | .ldReg .. | .stReg .. => 0x00003FFF#32
  | .cmpReg .. => 0x03C03FFF#32
  | .cmpImm .. => 0x03C00000#32
  | .notReg .. | .movReg .. => 0x003C3FFF#32
  | .notImm .. => 0x003C0000#32
  | .movImm .. => 0x001C0000#32
  | .hlt | .nop | .ret | .iret => 0x07FFFFFF#32
  | .addImm .. | .subImm .. | .xorImm .. | .aslImm .. | .andImm .. | .orImm .. | .lslImm ..
  | .lsrImm .. | .asrImm .. | .ldImm .. | .stImm .. | .beq .. | .bgt .. | .b .. | .call ..
  | .csrReadLo .. | .csrReadHi .. | .csrSetLo .. | .csrSetHi .. | .csrClearLo .. | .csrClearHi .. =>
    0x00000000#32

/-- Decoding under a policy for the bits no format assigns (R70, R73). They are looked at once a format is known, so a
word with modifier 11 and a nonzero unassigned field is a `reservedModifier` under both policies: a DESIGN CHOICE, since
R72 and R73 give no order (notes/assumptions/19.md). -/
def decode (p : UnusedBits) (w : Word) : Except DecodeError Instr :=
  match decodeFields w with
  | .error e => .error e
  | .ok i =>
    match p with
    | .ignore => .ok i
    | .refuse => if w &&& i.unusedMask = 0#32 then .ok i else .error .nonzeroUnusedBits

/-! ### Bytes

The spec gives instructions as 32-bit numbers and leaves the order of their bytes in a file to the
loader (R48); byte lane 0 of a word, its least significant byte, stands first here
(notes/assumptions/5.md). -/

/-- The four byte lanes of a word, lane 0 first. -/
def wordBytes (w : Word) : List Byte :=
  [w.extractLsb' 0 8, w.extractLsb' 8 8, w.extractLsb' 16 8, w.extractLsb' 24 8]

/-- The word made of four byte lanes. -/
def bytesWord (b0 b1 b2 b3 : Byte) : Word := b3 ++ b2 ++ b1 ++ b0

/-- Decoding of a list of bytes: its first four are the instruction (R60). -/
def decodeBytes (p : UnusedBits) : List Byte → Except DecodeError Instr
  | b0 :: b1 :: b2 :: b3 :: _ => decode p (bytesWord b0 b1 b2 b3)
  | _ => .error .truncated

/-- The instruction the decoder reads from the word `w` of `nbits` bits, under the spec's default
`UNUSED_BITS_POLICY = ignore`. -/
def decodeTableWord (nbits w : Nat) : Option Instr :=
  match decodeBytes .ignore (wordBytes (BitVec.ofNat 32 (w % 2 ^ nbits))) with
  | .ok i => some i
  | .error _ => none

/-! ### Encoding (R61, R67, R69, R86) -/

/-- Register format. -/
def encodeReg (op : BitVec 5) (rd rs1 rs2 : Reg) : Word := op ++ 0#1 ++ rd ++ rs1 ++ rs2 ++ 0#14
/-- Immediate format. -/
def encodeImm (op : BitVec 5) (rd rs1 : Reg) (m : Modifier) (v : BitVec 16) : Word :=
  op ++ 1#1 ++ rd ++ rs1 ++ m.toBits ++ v
/-- Branch format. -/
def encodeBranch (op : BitVec 5) (offset : BitVec 27) : Word := op ++ offset
/-- Opcode only. -/
def encodeBare (op : BitVec 5) : Word := op ++ 0#27
/-- CSR special format: `ops` is `{read, set, clear}`, `m` the modifier of R67. -/
def encodeCsr (k : BitVec 4) (ops : BitVec 3) (m : BitVec 2) (v : BitVec 16) : Word :=
  0b01001#5 ++ 1#1 ++ k ++ 1#1 ++ ops ++ m ++ v

/-- The 5-bit code of an instruction in the opcode map of R69. -/
def Instr.opcode : Instr → BitVec 5
  | .addReg .. | .addImm .. => 0b00000#5
  | .subReg .. | .subImm .. => 0b00001#5
  | .hlt => 0b00010#5
  | .xorReg .. | .xorImm .. => 0b00011#5
  | .aslReg .. | .aslImm .. => 0b00100#5
  | .cmpReg .. | .cmpImm .. => 0b00101#5
  | .andReg .. | .andImm .. => 0b00110#5
  | .orReg .. | .orImm .. => 0b00111#5
  | .notReg .. | .notImm .. => 0b01000#5
  | .movReg .. | .movImm .. => 0b01001#5
  | .lslReg .. | .lslImm .. => 0b01010#5
  | .lsrReg .. | .lsrImm .. => 0b01011#5
  | .asrReg .. | .asrImm .. => 0b01100#5
  | .nop => 0b01101#5
  | .ldReg .. | .ldImm .. => 0b01110#5
  | .stReg .. | .stImm .. => 0b01111#5
  | .beq .. => 0b10000#5
  | .bgt .. => 0b10001#5
  | .b .. => 0b10010#5
  | .call .. => 0b10011#5
  | .ret => 0b10100#5
  | .iret => 0b10101#5
  | .csrReadLo .. | .csrReadHi .. | .csrSetLo .. | .csrSetHi .. | .csrClearLo .. | .csrClearHi .. =>
    0b01001#5

/-- The word of an instruction, every unassigned bit 0 (R86). -/
def encode : Instr → Word
  | .addReg rd rs1 rs2 => encodeReg 0b00000#5 rd rs1 rs2
  | .addImm rd rs1 m v => encodeImm 0b00000#5 rd rs1 m v
  | .subReg rd rs1 rs2 => encodeReg 0b00001#5 rd rs1 rs2
  | .subImm rd rs1 m v => encodeImm 0b00001#5 rd rs1 m v
  | .hlt => encodeBare 0b00010#5
  | .xorReg rd rs1 rs2 => encodeReg 0b00011#5 rd rs1 rs2
  | .xorImm rd rs1 m v => encodeImm 0b00011#5 rd rs1 m v
  | .aslReg rd rs1 rs2 => encodeReg 0b00100#5 rd rs1 rs2
  | .aslImm rd rs1 m v => encodeImm 0b00100#5 rd rs1 m v
  | .cmpReg rs1 rs2 => encodeReg 0b00101#5 0#4 rs1 rs2
  | .cmpImm rs1 m v => encodeImm 0b00101#5 0#4 rs1 m v
  | .andReg rd rs1 rs2 => encodeReg 0b00110#5 rd rs1 rs2
  | .andImm rd rs1 m v => encodeImm 0b00110#5 rd rs1 m v
  | .orReg rd rs1 rs2 => encodeReg 0b00111#5 rd rs1 rs2
  | .orImm rd rs1 m v => encodeImm 0b00111#5 rd rs1 m v
  | .notReg rd rs2 => encodeReg 0b01000#5 rd 0#4 rs2
  | .notImm rd m v => encodeImm 0b01000#5 rd 0#4 m v
  | .movReg rd rs2 => encodeReg 0b01001#5 rd 0#4 rs2
  | .movImm rd m v => encodeImm 0b01001#5 rd 0#4 m v
  | .lslReg rd rs1 rs2 => encodeReg 0b01010#5 rd rs1 rs2
  | .lslImm rd rs1 m v => encodeImm 0b01010#5 rd rs1 m v
  | .lsrReg rd rs1 rs2 => encodeReg 0b01011#5 rd rs1 rs2
  | .lsrImm rd rs1 m v => encodeImm 0b01011#5 rd rs1 m v
  | .asrReg rd rs1 rs2 => encodeReg 0b01100#5 rd rs1 rs2
  | .asrImm rd rs1 m v => encodeImm 0b01100#5 rd rs1 m v
  | .nop => encodeBare 0b01101#5
  | .ldReg rd rs1 rs2 => encodeReg 0b01110#5 rd rs1 rs2
  | .ldImm rd rs1 m v => encodeImm 0b01110#5 rd rs1 m v
  | .stReg rd rs1 rs2 => encodeReg 0b01111#5 rd rs1 rs2
  | .stImm rd rs1 m v => encodeImm 0b01111#5 rd rs1 m v
  | .beq o => encodeBranch 0b10000#5 o
  | .bgt o => encodeBranch 0b10001#5 o
  | .b o => encodeBranch 0b10010#5 o
  | .call o => encodeBranch 0b10011#5 o
  | .ret => encodeBare 0b10100#5
  | .iret => encodeBare 0b10101#5
  | .csrReadLo k v => encodeCsr k 0b100#3 0b01#2 v
  | .csrReadHi k v => encodeCsr k 0b100#3 0b10#2 v
  | .csrSetLo k v => encodeCsr k 0b010#3 0b01#2 v
  | .csrSetHi k v => encodeCsr k 0b010#3 0b10#2 v
  | .csrClearLo k v => encodeCsr k 0b001#3 0b00#2 v
  | .csrClearHi k v => encodeCsr k 0b001#3 0b10#2 v

/-- The four bits of a word that `CSR_SELECT` names, the highest first (R3, R68; notes/assumptions/16.md). -/
def Config.csrIndex (c : Config) (w : Word) : BitVec 4 :=
  BitVec.ofBool (w.getLsbD c.csrSelect.b3.toNat) ++ BitVec.ofBool (w.getLsbD c.csrSelect.b2.toNat) ++
    BitVec.ofBool (w.getLsbD c.csrSelect.b1.toNat) ++ BitVec.ofBool (w.getLsbD c.csrSelect.b0.toNat)

/-- The CSR index of a `csr mov`: the bits of its word that `CSR_SELECT` names, by default its `rd` field (R68,
D15). -/
def Instr.csrIndex (c : Config) (i : Instr) : BitVec 4 := c.csrIndex (encode i)

end Sys2Proof
end

