-- ==== Sys2Proof/Machine/Devices.lean ====
section
/-!
DEFINITION. The data space behind the APB: the address map (spec/20_memory.md R43), what a load or a
store does at each target (spec/20_memory.md R44 to R46, spec/61_devices.md), and the wait on a device
that is not ready (spec/20_memory.md R53).
-/

namespace Sys2Proof.Machine

/-- What a data address reaches (R43). -/
inductive Target where
  | ram
  | pwm
  | gpioTris
  | timer
  | uart
  | spi
  | gpioPort
deriving DecidableEq, Repr

/-- An address is in the data memory range `RAM_BASE` to `RAM_BASE + RAM_WORDS - 1` (R43). -/
def inRam (c : Config) (a : Word) : Bool :=
  decide (c.ramBase.toNat ≤ a.toNat) && decide (a.toNat < c.ramBase.toNat + c.ramWords)

/-- The address map of R43; `none` for every other address (R46). -/
def targetOf (c : Config) (a : Word) : Option Target :=
  match a.toNat with
  | 0x00010000 => some .pwm
  | 0x00010001 => some .gpioTris
  | 0x00010002 => some .timer
  | 0x00010003 => some .uart
  | 0x00010004 => some .spi
  | 0x00010011 => some .gpioPort
  | _ => if inRam c a then some .ram else none

/-! ### Control fields the devices read -/

/-- UART: SPEN and TXEN (R22, R222). -/
def State.uartTxEnabled (s : State) : Bool := s.csr3.getLsbD 5 && s.csr3.getLsbD 1
/-- UART: SPEN and RXEN (R22, R221). -/
def State.uartRxEnabled (s : State) : Bool := s.csr3.getLsbD 5 && s.csr3.getLsbD 2
/-- UART: bytes per word by DATA CONTROL (R22), read anew whenever it is used (R274). -/
def State.uartBytes (s : State) : Nat := (s.csr3.extractLsb' 6 2).toNat + 1
/-- UART: bytes of the stored word are still to be moved to the shift register (R222). -/
def State.uartMore (s : State) : Bool := s.uart.txPending && decide (s.uart.txSent < s.uartBytes)
/-- SPI: CPOL (R21). -/
def State.spiCpol (s : State) : Bool := s.csr2.getLsbD 0
/-- SPI: CPHA (R21). -/
def State.spiCpha (s : State) : Bool := s.csr2.getLsbD 1
/-- SPI: master mode, MST (R21). -/
def State.spiMaster (s : State) : Bool := s.csr2.getLsbD 7
/-- SPI: OVR (R21). -/
def State.spiOvr (s : State) : Bool := s.csr2.getLsbD 8
/-- SPI: Buf1 (R21). -/
def State.spiBuf1 (s : State) : Bool := s.csr2.getLsbD 9
/-- SPI: Buf2 (R21). -/
def State.spiBuf2 (s : State) : Bool := s.csr2.getLsbD 10

/-- SPI: the number of bits of a transfer by SIZE (R21, R233): code 11 is 32 bits, the others are the
device's (U20). -/
def State.spiBits (s : State) : Nat :=
  let n : SpiLength → Nat := fun l => match l with | .bits8 => 8 | .bits16 => 16 | .bits32 => 32
  match (s.csr2.extractLsb' 5 2).toNat with
  | 0b00 => n s.cfg.spiSize00
  | 0b01 => n s.cfg.spiSize01
  | 0b10 => n s.cfg.spiSize10
  | _ => 32

/-- SPI: `PREADY` is 1 in IDLE with no transfer about to begin (R237). -/
def State.spiReady (s : State) : Bool := s.spi.fsm == .idle && !s.spi.startCommand

/-- SPI: the level of the chip select line, driven in master mode alone (R238): 0 while a transfer is under way; in
slave mode the pin is high-impedance, `none`. -/
def State.spiChipSelect (s : State) : Option Bool :=
  if s.spiMaster then some (s.spi.fsm == .idle || s.spi.fsm == .ending) else none

/-- SPI: the module works: a master in all four clock modes, a slave in mode `CPOL = 0`, `CPHA = 0` alone (R238). That
a slave in another mode stands still is a DESIGN CHOICE (notes/assumptions/24.md). -/
def State.spiWorks (s : State) : Bool := s.spiMaster || (!s.spiCpol && !s.spiCpha)

/-- SPI: the level on SCLK, `clock ^ CPOL ^ CPHA` in master mode, high-impedance (`none`) in slave mode (R238). -/
def State.spiSclk (s : State) : Option Bool :=
  if s.spiMaster then some (s.spi.clock ^^ (s.spiCpol ^^ s.spiCpha)) else none

/-- The level on each GPIO pin (R250, R253): the outside's for an input pin or an overdriven output pin,
else the PORT bit. -/
def State.gpioPins (s : State) : BitVec 16 :=
  (s.gpio.ext &&& (s.gpio.tris ||| s.gpio.overdrive)) |||
    (s.gpio.port &&& ~~~(s.gpio.tris ||| s.gpio.overdrive))

/-- `PREADY` of a target (R200, R201): the UART answers TXIF (R221), and 1 while SPEN or TXEN is 0, when a store
completes (R222; DEDUCED for a load, whose `PREADY` is the same wire, notes/assumptions/20.md); the SPI R237; every
other target is always ready. -/
def State.ready (s : State) : Target → Bool
  | .uart => s.uart.txif || !s.uartTxEnabled
  | .spi => s.spiReady
  | .ram | .pwm | .gpioTris | .timer | .gpioPort => true

/-! ### Loads -/

/-- A load from the UART (R225): bits 7:0 are RCREG if a byte has been received since the last read,
else `any`; bits 31:8 are `any`; RXIF is cleared. -/
def State.loadUart (s : State) : Word × State :=
  let v := if s.uart.rxif then s.free.extractLsb' 8 24 ++ s.uart.rcreg else s.free
  (v, { s.drawn with uart := { s.uart with rxif := false } })

/-- A load from the SPI (R236): the older unread word first, its full flag cleared; `any` if there is
none; OVR is `any` afterwards (U13). Bit 0 of the drawn word is the new OVR, a second draw the value. -/
def State.loadSpi (s : State) : Word × State :=
  let ovr := s.free.getLsbD 0
  let t := s.drawn
  if s.spiBuf2 then
    (s.spi.buffer2, { t with csr2 := setBit (setBit s.csr2 10 false) 8 ovr })
  else if s.spiBuf1 then
    (s.spi.buffer1, { t with csr2 := setBit (setBit s.csr2 9 false) 8 ovr })
  else
    (t.free, { t.drawn with csr2 := setBit s.csr2 8 ovr })

/-- A load from GPIO PORT (R253): bits 15:0 are the pins, which the read latch takes; bits 31:16 are
`any`. -/
def State.loadPort (s : State) : Word × State :=
  (s.free.extractLsb' 16 16 ++ s.gpioPins, { s.drawn with gpio := { s.gpio with latch := s.gpioPins } })

/-- `MemRead(a, 32)` at a ready target (R44): the value and the state after the read. The PWM, the timer
and GPIO TRIS have no read path: `any` (R210, R243, R251, U11). -/
def State.loadFrom (s : State) (t : Target) (a : Word) : Word × State :=
  match t with
  | .ram => (s.ramCell a, s)
  | .pwm => (s.free, s.drawn)
  | .gpioTris => (s.free, s.drawn)
  | .timer => (s.free, s.drawn)
  | .uart => s.loadUart
  | .spi => s.loadSpi
  | .gpioPort => s.loadPort

/-! ### Stores -/

/-- A store to the PWM (R210): the control word; PR and the duty cycle master take their fields (R211,
R212). TE = 0 puts TMR to 0 (R211), and PE = 0 leaves the level `any` (U27). -/
def State.storePwm (s : State) (v : Word) : State :=
  { s with
    pwm := { s.pwm with
      reg := v, pr := v.extractLsb' 7 12, dutyMaster := v.extractLsb' 19 12
      tmr := if v.getLsbD 1 then s.pwm.tmr else 0#12
      out := if v.getLsbD 0 then s.pwm.out else s.free.getLsbD 0 }
    freeCount := if v.getLsbD 0 then s.freeCount else s.freeCount + 1 }

/-- A store to GPIO TRIS (R251). -/
def State.storeTris (s : State) (v : Word) : State :=
  { s with gpio := { s.gpio with tris := v.extractLsb' 0 16 } }

/-- A store to the timer (R243): parallel load, `int_flag` cleared. -/
def State.storeTimer (s : State) (v : Word) : State :=
  { s with timer := { s.timer with count := v.extractLsb' 0 16, intFlag := false } }

/-- A store to the UART (R222, R223): TXREG takes the word and TXIF drops. With SPEN or TXEN 0 nothing of the word is
sent (U26); TXREG takes it if TXIF is high, and TXIF is then not stated and free until the enabled transmitter is idle
again (DESIGN CHOICE, notes/assumptions/21.md). -/
def State.storeUart (s : State) (v : Word) : State :=
  if s.uartTxEnabled then
    { s with uart := { s.uart with txreg := v, txif := false, txPending := true, txSent := 0 } }
  else if s.uart.txif then
    { s.drawn with uart := { s.uart with txreg := v, txif := s.free.getLsbD 0, txPending := false } }
  else s

/-- A store to the SPI (R232): the write buffer takes the word and a transfer is about to begin. -/
def State.storeSpi (s : State) (v : Word) : State :=
  { s with spi := { s.spi with buffer := v, startCommand := true } }

/-- A store to GPIO PORT (R252): the bits of output pins; the PORT bit of an input pin is `any` (U24). -/
def State.storePort (s : State) (v : Word) : State :=
  { s.drawn with gpio := { s.gpio with
      port := (v.extractLsb' 0 16 &&& ~~~s.gpio.tris) ||| (s.free.extractLsb' 0 16 &&& s.gpio.tris) } }

/-- `MemWrite(a, 32, v)` at a ready target (R45). -/
def State.storeTo (s : State) (t : Target) (a v : Word) : State :=
  match t with
  | .ram => s.setRamCell a v
  | .pwm => s.storePwm v
  | .gpioTris => s.storeTris v
  | .timer => s.storeTimer v
  | .uart => s.storeUart v
  | .spi => s.storeSpi v
  | .gpioPort => s.storePort v

/-! ### The two bus transactions -/

/-- The controller enters a state (R201). -/
def State.setBus (s : State) (b : ApbState) : State := { s with bus := b }

/-- The controller's transitions (R201): IDLE to SETUP on `transfer`; SETUP to ACCESS always; ACCESS stays while
`PREADY = 0`, and else goes to SETUP on `transfer` and to IDLE without. -/
def apbNext (b : ApbState) (transfer ready : Bool) : ApbState :=
  match b with
  | .idle => if transfer then .setup else .idle
  | .setup => .access
  | .access => if ready then (if transfer then .setup else .idle) else .access

/-- The controller over one load or store (R200, R201): from IDLE through SETUP to ACCESS, or on in the ACCESS of one
that waits, and then one transition with the target's `PREADY`. The next instruction is a step of its own (R6), so
`transfer` is 0 at the end of ACCESS. -/
def apbRun (b : ApbState) (ready : Bool) : ApbState :=
  match b with
  | .idle => apbNext (apbNext (apbNext .idle true ready) false ready) false ready
  | .setup => apbNext (apbNext .setup false ready) false ready
  | .access => apbNext .access false ready

/-- The address, read as an instruction address, lies inside the loaded program (R55). Under `PC_STEP = 4` an address
inside a loaded word counts, a multiple of 4 or not: a DESIGN CHOICE (notes/assumptions/28.md). -/
def State.isCode (s : State) (a : Word) : Bool := (s.imem.read (4 * (a.toNat / s.cfg.pcStep.toNat))).isSome

/-- `ld` at the effective address `a` (R110): one APB read. On a device that is not ready the
controller stays in ACCESS and the instruction has had no effect yet (R53). -/
def State.load (s : State) (rd : Reg) (a : Word) : Result :=
  match targetOf s.cfg a with
  | none => .fault .unmappedAddress
  | some t =>
    if s.ready t then
      .next (((s.loadFrom t a).2.setReg rd (s.loadFrom t a).1).setBus (apbRun s.bus true)).advance
    else .next (s.setBus (apbRun s.bus false))

/-- `st` of the value `v` at the effective address `a` (R111): one APB write, with the guard of R55 and
the wait of R53. -/
def State.store (s : State) (a v : Word) : Result :=
  match targetOf s.cfg a with
  | none => .fault .unmappedAddress
  | some t =>
    if s.cfg.codeStores = .guarded ∧ s.isCode a then .fault .storeToCode
    else if s.ready t then .next ((s.storeTo t a v).setBus (apbRun s.bus true)).advance
    else .next (s.setBus (apbRun s.bus false))

end Sys2Proof.Machine
end

