-- ==== Sys2Proof/Machine/LoadStore.lean ====
section
/-!
DEFINITION. Load and store (spec/42_load_store.md R110 to R113).
-/

namespace Sys2Proof.Machine

/-- `ld rd, rs2[rs1]` (R110). -/
def execLdReg (rd rs1 rs2 : Reg) (s : State) : Result :=
  s.load rd (s.effectiveAddress rs1 (s.op2Reg rs2))

/-- `ld rd, imm[rs1]` (R110). -/
def execLdImm (rd rs1 : Reg) (m : Modifier) (imm : BitVec 16) (s : State) : Result :=
  s.load rd (s.effectiveAddress rs1 (op2Imm m imm))

/-- `st rd, rs2[rs1]`: stores the value of `rd` (R111). -/
def execStReg (rd rs1 rs2 : Reg) (s : State) : Result :=
  s.store (s.effectiveAddress rs1 (s.op2Reg rs2)) (s.reg rd)

/-- `st rd, imm[rs1]`: stores the value of `rd` (R111). -/
def execStImm (rd rs1 : Reg) (m : Modifier) (imm : BitVec 16) (s : State) : Result :=
  s.store (s.effectiveAddress rs1 (op2Imm m imm)) (s.reg rd)

end Sys2Proof.Machine
end

