-- ==== Sys2Proof/Machine/Shift.lean ====
section
/-!
DEFINITION. Shift instructions (spec/41_shift.md R100 to R104).
-/

namespace Sys2Proof.Machine

/-- `asl rd, rs1, rs2` (R101). -/
def execAslReg (rd rs1 rs2 : Reg) (s : State) : Result :=
  s.writeResult rd (s.reg rs1 <<< shiftAmount s.cfg.shamtMode (s.op2Reg rs2))

/-- `asl rd, rs1, imm` (R101). -/
def execAslImm (rd rs1 : Reg) (m : Modifier) (imm : BitVec 16) (s : State) : Result :=
  s.writeResult rd (s.reg rs1 <<< shiftAmount s.cfg.shamtMode (op2Imm m imm))

/-- `lsl rd, rs1, rs2` (R102). -/
def execLslReg (rd rs1 rs2 : Reg) (s : State) : Result :=
  s.writeResult rd (s.reg rs1 <<< shiftAmount s.cfg.shamtMode (s.op2Reg rs2))

/-- `lsl rd, rs1, imm` (R102). -/
def execLslImm (rd rs1 : Reg) (m : Modifier) (imm : BitVec 16) (s : State) : Result :=
  s.writeResult rd (s.reg rs1 <<< shiftAmount s.cfg.shamtMode (op2Imm m imm))

/-- `lsr rd, rs1, rs2` (R103). -/
def execLsrReg (rd rs1 rs2 : Reg) (s : State) : Result :=
  s.writeResult rd (s.reg rs1 >>> shiftAmount s.cfg.shamtMode (s.op2Reg rs2))

/-- `lsr rd, rs1, imm` (R103). -/
def execLsrImm (rd rs1 : Reg) (m : Modifier) (imm : BitVec 16) (s : State) : Result :=
  s.writeResult rd (s.reg rs1 >>> shiftAmount s.cfg.shamtMode (op2Imm m imm))

/-- `asr rd, rs1, rs2` (R104). -/
def execAsrReg (rd rs1 rs2 : Reg) (s : State) : Result :=
  s.writeResult rd ((s.reg rs1).sshiftRight (shiftAmount s.cfg.shamtMode (s.op2Reg rs2)))

/-- `asr rd, rs1, imm` (R104). -/
def execAsrImm (rd rs1 : Reg) (m : Modifier) (imm : BitVec 16) (s : State) : Result :=
  s.writeResult rd ((s.reg rs1).sshiftRight (shiftAmount s.cfg.shamtMode (op2Imm m imm)))

end Sys2Proof.Machine
end

