-- ==== Sys2Proof/Machine/System.lean ====
section
/-!
DEFINITION. System instructions (spec/44_system.md R130 to R137).
-/

namespace Sys2Proof.Machine

/-- `hlt` (R130): the pc stays at the `hlt`. -/
def execHlt (s : State) : Result := .next s.halt

/-- `nop` (R131). -/
def execNop (s : State) : Result := .next s.advance

/-- `iret` (R132). -/
def execIret (s : State) : Result := s.returnFromInterrupt

/-- `csr mov` read, lower half (R135). -/
def execCsrReadLo (k : BitVec 4) (mask : BitVec 16) (s : State) : Result :=
  s.csrTest (Instr.csrIndex s.cfg (.csrReadLo k mask)) .lower mask

/-- `csr mov` read, upper half (R135). -/
def execCsrReadHi (k : BitVec 4) (mask : BitVec 16) (s : State) : Result :=
  s.csrTest (Instr.csrIndex s.cfg (.csrReadHi k mask)) .upper mask

/-- `csr mov` set, lower half (R136). -/
def execCsrSetLo (k : BitVec 4) (mask : BitVec 16) (s : State) : Result :=
  s.csrSet (Instr.csrIndex s.cfg (.csrSetLo k mask)) .lower mask

/-- `csr mov` set, upper half (R136). -/
def execCsrSetHi (k : BitVec 4) (mask : BitVec 16) (s : State) : Result :=
  s.csrSet (Instr.csrIndex s.cfg (.csrSetHi k mask)) .upper mask

/-- `csr mov` clear, lower half (R137). -/
def execCsrClearLo (k : BitVec 4) (mask : BitVec 16) (s : State) : Result :=
  s.csrClear (Instr.csrIndex s.cfg (.csrClearLo k mask)) .lower mask

/-- `csr mov` clear, upper half (R137). -/
def execCsrClearHi (k : BitVec 4) (mask : BitVec 16) (s : State) : Result :=
  s.csrClear (Instr.csrIndex s.cfg (.csrClearHi k mask)) .upper mask

end Sys2Proof.Machine
end

