-- ==== Sys2Proof/Machine/Dispatch.lean ====
section
/-! DEFINITION. One arm per constructor of `Instr`, each one call of its meaning. -/

namespace Sys2Proof.Machine

def exec (i : Instr) (s : State) : Host.Outcome State Fault Refusal :=
  match i with
  | .addReg rd rs1 rs2 => Sys2Proof.Machine.execAddReg rd rs1 rs2 s
  | .addImm rd rs1 m imm => Sys2Proof.Machine.execAddImm rd rs1 m imm s
  | .subReg rd rs1 rs2 => Sys2Proof.Machine.execSubReg rd rs1 rs2 s
  | .subImm rd rs1 m imm => Sys2Proof.Machine.execSubImm rd rs1 m imm s
  | .hlt => Sys2Proof.Machine.execHlt s
  | .xorReg rd rs1 rs2 => Sys2Proof.Machine.execXorReg rd rs1 rs2 s
  | .xorImm rd rs1 m imm => Sys2Proof.Machine.execXorImm rd rs1 m imm s
  | .aslReg rd rs1 rs2 => Sys2Proof.Machine.execAslReg rd rs1 rs2 s
  | .aslImm rd rs1 m imm => Sys2Proof.Machine.execAslImm rd rs1 m imm s
  | .cmpReg rs1 rs2 => Sys2Proof.Machine.execCmpReg rs1 rs2 s
  | .cmpImm rs1 m imm => Sys2Proof.Machine.execCmpImm rs1 m imm s
  | .andReg rd rs1 rs2 => Sys2Proof.Machine.execAndReg rd rs1 rs2 s
  | .andImm rd rs1 m imm => Sys2Proof.Machine.execAndImm rd rs1 m imm s
  | .orReg rd rs1 rs2 => Sys2Proof.Machine.execOrReg rd rs1 rs2 s
  | .orImm rd rs1 m imm => Sys2Proof.Machine.execOrImm rd rs1 m imm s
  | .notReg rd rs2 => Sys2Proof.Machine.execNotReg rd rs2 s
  | .notImm rd m imm => Sys2Proof.Machine.execNotImm rd m imm s
  | .movReg rd rs2 => Sys2Proof.Machine.execMovReg rd rs2 s
  | .movImm rd m imm => Sys2Proof.Machine.execMovImm rd m imm s
  | .lslReg rd rs1 rs2 => Sys2Proof.Machine.execLslReg rd rs1 rs2 s
  | .lslImm rd rs1 m imm => Sys2Proof.Machine.execLslImm rd rs1 m imm s
  | .lsrReg rd rs1 rs2 => Sys2Proof.Machine.execLsrReg rd rs1 rs2 s
  | .lsrImm rd rs1 m imm => Sys2Proof.Machine.execLsrImm rd rs1 m imm s
  | .asrReg rd rs1 rs2 => Sys2Proof.Machine.execAsrReg rd rs1 rs2 s
  | .asrImm rd rs1 m imm => Sys2Proof.Machine.execAsrImm rd rs1 m imm s
  | .nop => Sys2Proof.Machine.execNop s
  | .ldReg rd rs1 rs2 => Sys2Proof.Machine.execLdReg rd rs1 rs2 s
  | .ldImm rd rs1 m imm => Sys2Proof.Machine.execLdImm rd rs1 m imm s
  | .stReg rd rs1 rs2 => Sys2Proof.Machine.execStReg rd rs1 rs2 s
  | .stImm rd rs1 m imm => Sys2Proof.Machine.execStImm rd rs1 m imm s
  | .beq offset => Sys2Proof.Machine.execBeq offset s
  | .bgt offset => Sys2Proof.Machine.execBgt offset s
  | .b offset => Sys2Proof.Machine.execB offset s
  | .call offset => Sys2Proof.Machine.execCall offset s
  | .ret => Sys2Proof.Machine.execRet s
  | .iret => Sys2Proof.Machine.execIret s
  | .csrReadLo k mask => Sys2Proof.Machine.execCsrReadLo k mask s
  | .csrReadHi k mask => Sys2Proof.Machine.execCsrReadHi k mask s
  | .csrSetLo k mask => Sys2Proof.Machine.execCsrSetLo k mask s
  | .csrSetHi k mask => Sys2Proof.Machine.execCsrSetHi k mask s
  | .csrClearLo k mask => Sys2Proof.Machine.execCsrClearLo k mask s
  | .csrClearHi k mask => Sys2Proof.Machine.execCsrClearHi k mask s

end Sys2Proof.Machine
end

