-- ==== Sys2Proof/Machine/Env.lean ====
section
/-!
DEFINITION. How the devices and the watchdog run between two instructions: each event of the
environment applied by its device's own rules (spec/61_devices.md R203, R211, R222 to R238, R244, R253;
spec/60_exceptions.md R156, R180 to R184).
-/

namespace Sys2Proof.Machine

/-! ### Timer (R244, R245) -/

/-- The edge reaches the timer: CLK_SRC and EDGE of TMCON select it (R241). Without `TMCON_CSR` the model
has no TMCON (R26) and any edge may count. -/
def State.timerSelects (s : State) (e : ClockEdge) : Bool :=
  match s.cfg.tmconCsr with
  | none => true
  | some _ =>
    match e with
    | .internal => !s.tmcon.getLsbD 5
    | .externalRising => s.tmcon.getLsbD 5 && !s.tmcon.getLsbD 4
    | .externalFalling => s.tmcon.getLsbD 5 && s.tmcon.getLsbD 4

/-- The selected edge is a rising edge of the prescaled clock: bit PRESCALE_VALUE of the chain rises, or
the prescaler is bypassed (R245). -/
def State.timerTicks (s : State) : Bool :=
  if s.cfg.tmconCsr.isSome && s.tmcon.getLsbD 3 then
    !s.timer.chain.getLsbD (s.tmcon.extractLsb' 0 3).toNat &&
      (s.timer.chain + 1#8).getLsbD (s.tmcon.extractLsb' 0 3).toNat
  else true

/-- TIMER_ON (R241, R244). -/
def State.timerOn (s : State) : Bool := s.cfg.tmconCsr.isNone || s.tmcon.getLsbD 6

/-- One count (R244): the overflow from 0xFFFF sets `int_flag` and with it `timer_intf`; a timer whose
`int_flag` is set has stopped counting. -/
def State.timerCount (s : State) : State :=
  if s.timer.intFlag then s
  else if s.timer.count = 0xFFFF#16 then
    { s with timer := { s.timer with count := 0#16, intFlag := true } }.raiseFlag .timer
  else { s with timer := { s.timer with count := s.timer.count + 1#16 } }

/-- One edge at the timer's clock inputs. -/
def State.timerClock (s : State) (e : ClockEdge) : State :=
  if s.timerSelects e then
    let t := if s.timerOn && s.timerTicks then s.timerCount else s
    { t with timer := { t.timer with chain := s.timer.chain + 1#8 } }
  else s

/-! ### PWM (R211, R212, R213) -/

/-- One edge of the prescaled clock. At the edge that ends TMR = PR comparator B sets the output and rolls the counter
and the duty slave over (R212); comparator A resets the output as soon as TMR reaches the duty slave, so that a period
has `duty` high ticks (R213). Both at once, or PE = 0, leave the level `any` (U27). TE = 0 holds TMR at 0. -/
def State.pwmTick (s : State) : State :=
  let tmr := if s.pwm.reg.getLsbD 1 then s.pwm.tmr else 0#12
  let roll := tmr == s.pwm.pr
  let next := if s.pwm.reg.getLsbD 1 && !roll then tmr + 1#12 else 0#12
  let duty := if roll then s.pwm.dutyMaster else s.pwm.dutySlave
  let reset := next == duty
  let anyLevel := !s.pwm.reg.getLsbD 0 || (reset && next == s.pwm.pr)
  { s with
    pwm := { s.pwm with
      tmr := next
      dutySlave := duty
      out := if anyLevel then s.free.getLsbD 0
        else if reset then false else if roll then true else s.pwm.out }
    freeCount := if anyLevel then s.freeCount + 1 else s.freeCount }

/-! ### UART (R222, R223, R226) -/

/-- The next byte of TXREG to send, low byte first (R222). -/
def State.uartNextByte (s : State) : Byte := (s.uart.txreg >>> (8 * s.uart.txSent)).setWidth 8

/-- The transmitter has nothing more to send: TXIF is set (R223). -/
def Uart.idle (u : Uart) : Uart := { u with txif := true, txPending := false }

/-- The next byte moves to the shift register as a frame (R222); the only byte of a one-byte word frees TXREG at once,
and TXIF comes back (R223). -/
def State.uartMoveByte (s : State) : Uart :=
  let u := { s.uart with
    tsr := 1#1 ++ s.uartNextByte ++ 0#1, tsrBits := 10, txSent := s.uart.txSent + 1 }
  if s.uartBytes = 1 then u.idle else u

/-- The frame in the shift register moves on by one bit (R222). -/
def Uart.shiftOut (u : Uart) : Uart :=
  { u with txLine := u.tsr.getLsbD 0, tsr := u.tsr >>> 1, tsrBits := u.tsrBits - 1 }

/-- One transmit bit time (R222, R223): a frame in the shift register moves on by one bit; an idle
transmitter takes the next selected byte. TXIF comes back when a one-byte word has moved to the shift
register, or when the last byte of a longer word has been sent, by the DATA CONTROL of this bit time (R274). Where a
`csr mov` changes DATA CONTROL to 00 while a frame of a longer word is in the shift register, R223 does not say when TXIF
comes back; that it does so with the last bit of that frame is a DESIGN CHOICE (notes/assumptions/21.md). -/
def State.uartTxTick (s : State) : State :=
  if s.uartTxEnabled then
    { s with uart :=
        if s.uart.tsrBits = 0 then
          if s.uartMore then s.uartMoveByte else s.uart.idle
        else if s.uart.tsrBits = 1 ∧ s.uartMore = false then s.uart.shiftOut.idle
        else s.uart.shiftOut }
  else s

/-- RX reads 1 while the receiver waits for a start bit. After an invalid stop bit that 1 may be the pull-up's, and how
long the pull-up holds the line is not stated: whether it lets go now is free (R226, notes/assumptions/22.md). -/
def State.uartLineIdle (s : State) : State :=
  if s.uart.pullupEn then { s.drawn with uart := { s.uart with pullupEn := s.free.getLsbD 0 } } else s

/-- One receive bit time with the level driven on RX, which the pull-up forces high (R226): start bit, eight data bits,
low bit first, stop bit. A byte with a valid stop bit goes to RCREG and sets RXIF; one that arrives before the last was
read leaves RCREG `any` (U26); an invalid stop bit drops the byte and turns the pull-up on. With SPEN or RXEN 0 the
receiver stands still, in mid-frame too: a DESIGN CHOICE (notes/assumptions/22.md). -/
def State.uartRxBit (s : State) (driven : Bool) : State :=
  let level := driven || s.uart.pullupEn
  if s.uartRxEnabled then
    if s.uart.rxCount = 0 then
      if level then s.uartLineIdle else { s with uart := { s.uart with rxCount := 1 } }
    else if s.uart.rxCount ≤ 8 then
      { s with uart := { s.uart with
          rxShift := BitVec.ofBool level ++ s.uart.rxShift.extractLsb' 1 7
          rxCount := s.uart.rxCount + 1 } }
    else if level then
      if s.uart.rxif then
        { s.drawn with uart := { s.uart with rcreg := s.free.setWidth 8, rxCount := 0 } }
      else
        { s with uart := { s.uart with rcreg := s.uart.rxShift, rxif := true, rxCount := 0 } }
    else { s with uart := { s.uart with rxCount := 0, pullupEn := true } }
  else s

/-! ### SPI (R231 to R238) -/

/-- The external master drives `cs`: asserted in IDLE it sets `slave_enable`, released it clears it (R238). The spec says
so under slave mode alone; that `slave_enable` follows `cs` in master mode too, where it has no effect, is a DESIGN CHOICE
(notes/assumptions/24.md). -/
def State.spiSelect (s : State) (asserted : Bool) : State :=
  if asserted then
    if s.spi.fsm = .idle then { s with spi := { s.spi with slaveEnable := true } } else s
  else { s with spi := { s.spi with slaveEnable := false } }

/-- The update at END (R234, R235): the full flags and OVR, the two buffers, the interrupt; then IDLE. -/
def State.spiEnd (s : State) : State :=
  { s with
    csr2 := if !s.spiBuf1 then setBit s.csr2 9 true
      else if !s.spiBuf2 then setBit s.csr2 10 true
      else setBit s.csr2 8 true
    spi := { s.spi with
      buffer2 := s.spi.buffer1, buffer1 := s.spi.shiftReg, fsm := .idle
      startCommand := false } }.raiseFlag .spi

/-- An edge with phase 1 (R231, R233, R237): IDLE starts a transfer in master mode when one is about to begin, in slave
mode when the external master has asserted `cs`; TRANSMISSION shifts one bit in, most significant first. -/
def State.spiPhaseHigh (s : State) (miso : Bool) : State :=
  match s.spi.fsm with
  | .idle =>
    if (if s.spiMaster then s.spi.startCommand else s.spi.slaveEnable) then
      { s with spi := { s.spi with fsm := .assignCs, shiftReg := s.spi.buffer } }
    else s
  | .assignCs => { s with spi := { s.spi with fsm := .transmission, bitCnt := 0 } }
  | .transmission =>
    { s with spi := { s.spi with
        shiftReg := s.spi.shiftReg.extractLsb' 0 31 ++ BitVec.ofBool miso
        fsm := if s.spiBits ≤ s.spi.bitCnt + 1 then .ending else .transmission
        bitCnt := s.spi.bitCnt + 1 } }
  | .ending => s.spiEnd

/-- An edge with phase 0: TRANSMISSION drives the next bit onto MOSI (R231, R233). -/
def State.spiPhaseLow (s : State) : State :=
  if s.spi.fsm = .transmission then { s with spi := { s.spi with mosi := s.spi.shiftReg.getLsbD 31 } } else s

/-- `phase` and `clock` toggle at every edge (R231, R238). -/
def State.spiToggle (s : State) : State :=
  { s with spi := { s.spi with phase := !s.spi.phase, clock := !s.spi.clock } }

/-- One edge of the SPI's `prescale_clk`, in slave mode of the external clock, with the level on MISO (R231, R238). -/
def State.spiClock (s : State) (miso : Bool) : State :=
  if s.spiWorks then (if s.spi.phase then s.spiPhaseHigh miso else s.spiPhaseLow).spiToggle else s.spiToggle

/-! ### GPIO (R253) -/

/-- The outside drives the pins. -/
def State.drivePins (s : State) (level overdrive : BitVec 16) : State :=
  { s with gpio := { s.gpio with ext := level, overdrive := overdrive } }

/-! ### Watchdog (R180 to R184) -/

/-- The limit of R181: `pc_rst` after 4096 `watch_clk` cycles without a refresh. -/
def watchdogLimit : Nat := 4096

/-- Consecutive cycles of pc activity that issue a refresh (R182). -/
def watchdogActivity : Nat := 15

/-- One system clock cycle (R180 to R183). The pc changes in it only where the last step changed the pc. With EN = 0
the divider and the timer are held in reset; the activity counter, which R180 and R183 do not name there, goes on
counting, a DESIGN CHOICE (notes/assumptions/15.md). -/
def State.watchdogCycle (s : State) (pcChanged : Bool) : State :=
  let activity := if pcChanged && s.pc != s.wdt.lastPc then s.wdt.activity + 1 else 0
  let refresh := decide (watchdogActivity ≤ activity)
  let tick := decide (2 ^ (s.csr4.extractLsb' 0 3).toNat ≤ s.wdt.divider + 1)
  let count := if refresh then 0 else if tick then s.wdt.count + 1 else s.wdt.count
  if s.watchdogEnabled then
    { s with wdt := { s.wdt with
        divider := if tick then 0 else s.wdt.divider + 1
        count := count
        activity := if refresh then 0 else activity
        pcRst := s.wdt.pcRst || decide (watchdogLimit ≤ count) } }
  else
    { s with wdt := { s.wdt with
        divider := 0
        count := 0
        activity := if refresh then 0 else activity
        pcRst := false } }

/-- While EN = 0 the divider and the timer are held in reset and `pc_rst` is not asserted (R183). -/
def State.holdWatchdog (s : State) : State :=
  if s.watchdogEnabled then s
  else { s with wdt := { s.wdt with divider := 0, count := 0, pcRst := false } }

/-- The watchdog fires, where EN = 1 (R184). -/
def State.watchdogFire (s : State) : State :=
  if s.watchdogEnabled then { s with wdt := { s.wdt with pcRst := true } } else s

/-- A step that left the pc as it was took at least one cycle in which the pc did not change; so a processor that hangs
is reset in the end (R182, R184). -/
def State.stallCycle (s : State) : State := if s.pc = s.wdt.lastPc then s.watchdogCycle false else s

/-- The activity monitor takes note of the pc (R182). -/
def State.notePc (s : State) : State := { s with wdt := { s.wdt with lastPc := s.pc } }

/-! ### The boundary (R6 item 2) -/

/-- One event of the environment. -/
def State.applyEvent (s : State) : EnvEvent → State
  | .setFlag i => s.raiseFlag i
  | .timerClock e => s.timerClock e
  | .pwmTick => s.pwmTick
  | .uartTxTick => s.uartTxTick
  | .uartRxBit b => s.uartRxBit b
  | .spiSelect a => s.spiSelect a
  | .spiClock b => s.spiClock b
  | .pins l o => s.drivePins l o
  | .watchdogCycle c => s.watchdogCycle c
  | .watchdogFire => s.watchdogFire

/-- The events of one boundary, in order. -/
def State.applyEvents (s : State) : List EnvEvent → State
  | [] => s
  | e :: es => State.applyEvents (s.applyEvent e) es

/-- What the environment does at the next boundary; nothing once the inputs are used up. -/
def State.boundary (s : State) : Boundary := s.inputs.headD Boundary.quiet

/-- The state without the input of the next boundary. -/
def State.dropInput (s : State) : State := { s with inputs := s.inputs.tail }

/-- The state after the environment's events at this boundary, that input used up, and after what the watchdog sees of
the step before. -/
def State.atBoundary (s : State) : State :=
  (State.applyEvents s.dropInput.holdWatchdog.stallCycle s.boundary.events).notePc

/-- `pc_rst` resets the processor (R182, R184): never with EN = 0 (R183). -/
def State.resetDue (s : State) : Bool := s.wdt.pcRst && s.watchdogEnabled

/-- The interrupt taken at a boundary (R160): one is due, the boundary samples the pins, and no load or
store is waiting on the bus. -/
def State.takenInterrupt (s : State) (samples : Bool) : Option Level :=
  if samples && s.bus == .idle then s.dueInterrupt else none

end Sys2Proof.Machine
end

