-- ==== Sys2Proof/Machine/Fetch.lean ====
section
/-!
DEFINITION. Fetching an instruction (spec/20_memory.md R41, spec/10_state.md R15, R16) and decoding it
(spec/30_encoding.md R70).
-/

namespace Sys2Proof.Machine

/-- The number of the instruction word at a pc: instruction `i` is at address `i * PC_STEP` (R41). -/
def wordIndex (c : Config) (pc : Word) : Nat := pc.toNat / c.pcStep.toNat

/-- The four byte lanes of instruction word `n`, if the loader has placed it. -/
def Memory.wordLanes (m : Memory) (n : Nat) : Option (List Byte) :=
  match m.read (4 * n), m.read (4 * n + 1), m.read (4 * n + 2), m.read (4 * n + 3) with
  | some b0, some b1, some b2, some b3 => some [b0, b1, b2, b3]
  | _, _, _, _ => none

/-- The bytes of the instruction at the pc (R41, R15, R16). -/
def State.fetchBytes (s : State) : Except Fault (List Byte) :=
  if pcAligned s.cfg s.pc then
    if wordIndex s.cfg s.pc < s.cfg.imemWords then
      match s.imem.wordLanes (wordIndex s.cfg s.pc) with
      | some bs => .ok bs
      | none => .error .fetchUnwritten
    else .error .fetchOutOfRange
  else .error .misalignedPc

/-- The fault that reports a decode error (R151). -/
def decodeFault : DecodeError → Fault
  | .reservedOpcode => .reservedOpcode
  | .reservedModifier => .reservedModifier
  | .nonzeroUnusedBits => .nonzeroUnusedBits
  | .undefinedCsrOperation => .undefinedCsrOperation
  | .truncated => .fetchUnwritten

/-- The instruction at the pc (R6 item 5). -/
def State.fetchInstr (s : State) : Except Fault Instr :=
  match s.fetchBytes with
  | .error f => .error f
  | .ok bs =>
    match decodeBytes s.cfg.unusedBits bs with
    | .ok i => .ok i
    | .error e => .error (decodeFault e)

end Sys2Proof.Machine
end

