-- ==== Sys2Proof/Machine/Step.lean ====
section
/-! DEFINITION. One step of the machine (spec/00_scope.md R6), and the placing of one instruction where the
next step fetches. -/

namespace Sys2Proof.Machine

/-- One step, in the order of R6. A halted machine has no step, but for the reset an enabled watchdog must fire from
halt (R184). Else: the environment's events at the boundary; a watchdog reset if one is due; an interrupt entry if one
is taken; else the instruction at the pc. -/
def step (s : State) : Host.Outcome State Fault Refusal :=
  if s.halted then
    if s.watchdogEnabled then .next s.atBoundary.watchdogReset else .fault .halted
  else if s.atBoundary.resetDue then .next s.atBoundary.watchdogReset
  else
    match s.atBoundary.takenInterrupt s.boundary.samples with
    | some l => .next (s.atBoundary.enterInterrupt l)
    | none =>
      match s.atBoundary.fetchInstr with
      | .ok i => exec i s.atBoundary
      | .error f => .fault f

/-- `s` with the instruction whose bits are `w` placed in the instruction memory at the pc. -/
def State.withFetchWord (s : State) (nbits w : Nat) : State :=
  { s with imem := s.imem.writeWord (wordIndex s.cfg s.pc) (BitVec.ofNat 32 (w % 2 ^ nbits)) }

end Sys2Proof.Machine
end

