-- ==== Sys2Proof/WellFormed.lean ====
section
/-!
DEFINITION. Which instructions keep the software contract of the spec. Every field is typed to its
width, so the checks are the three the spec states on `csr mov` operands: the index names a defined
CSR (spec/10_state.md R27), the mask of a read has exactly one bit set (spec/44_system.md R135), and
a set aims at no reserved bit (spec/10_state.md R19, R25). An ill-formed instruction still decodes;
what it does is said in Machine/Ops.lean.
-/

namespace Sys2Proof

/-- How many low bits of CSR `k` exist (the table of R19 with C7's 11 bits, TMCON by R241); `none` for
an index the spec does not define (R27). -/
def Config.csrWidth (c : Config) (k : BitVec 4) : Option Nat :=
  match k.toNat with
  | 1 => some 9
  | 2 => some 11
  | 3 => some 8
  | 4 => some 5
  | 5 => some 22
  | _ => if c.tmconCsr = some k then some 7 else none

/-- Exactly one bit of the mask is set. -/
def oneHot (v : BitVec 16) : Bool := v ≠ 0#16 && (v &&& (v - 1#16)) == 0#16

/-- The index is defined and the mask, as a number placed `shift` bits up, lies inside the CSR's bits. -/
def Config.inCsr (c : Config) (k : BitVec 4) (shift : Nat) (v : BitVec 16) : Bool :=
  match c.csrWidth k with
  | some w => v.toNat * 2 ^ shift < 2 ^ w
  | none => false

/-- The software contract (see the header). -/
def Instr.wellFormed (c : Config) (i : Instr) : Bool :=
  match i with
  | .csrReadLo _ v => (c.csrWidth (i.csrIndex c)).isSome && oneHot v
  | .csrReadHi _ v => (c.csrWidth (i.csrIndex c)).isSome && oneHot v
  | .csrSetLo _ v => c.inCsr (i.csrIndex c) 0 v
  | .csrSetHi _ v => c.inCsr (i.csrIndex c) 16 v
  | .csrClearLo .. => (c.csrWidth (i.csrIndex c)).isSome
  | .csrClearHi .. => (c.csrWidth (i.csrIndex c)).isSome
  | .addReg .. | .addImm .. | .subReg .. | .subImm .. | .hlt | .xorReg .. | .xorImm ..
  | .aslReg .. | .aslImm .. | .cmpReg .. | .cmpImm .. | .andReg .. | .andImm .. | .orReg ..
  | .orImm .. | .notReg .. | .notImm .. | .movReg .. | .movImm .. | .lslReg .. | .lslImm ..
  | .lsrReg .. | .lsrImm .. | .asrReg .. | .asrImm .. | .nop | .ldReg .. | .ldImm .. | .stReg ..
  | .stImm .. | .beq .. | .bgt .. | .b .. | .call .. | .ret | .iret => true

end Sys2Proof
end

