-- ==== Sys2Proof/Safety.lean ====
section
/-!
DEFINITION. What claims call a good state and a safe step: the canonical form of the two memories, the
alignment of the pc (spec/10_state.md R16), the shape of the interrupt status bits (spec/60_exceptions.md
R158), and a step that does not stop.
-/

namespace Sys2Proof.Machine

/-- Both memories are in canonical form. -/
def State.MemoryWf (s : State) : Prop := Memory.wf s.ram ∧ Memory.wf s.imem

/-- The pc is an instruction address (R16). -/
def State.PcAligned (s : State) : Prop := pcAligned s.cfg s.pc = true

/-- Bit 20 of `csr[5]` has no storage: a read computes it (R158). -/
def State.Bit20Clear (s : State) : Prop := s.csr5.getLsbD 20 = false

/-- A nested interrupt is one inside a low-priority handler (R158). -/
def State.NestedInLow (s : State) : Prop := s.nested = true → s.lowActive = true

/-- The step ends in a next state. -/
def Steps (s : State) : Prop := ∃ t, step s = .next t

/-- `k` steps, none of which stops. -/
def SafeFor : Nat → State → Prop
  | 0, _ => True
  | k + 1, s => ∃ t, step s = .next t ∧ SafeFor k t

end Sys2Proof.Machine
end

