-- ==== Sys2Proof/Certificates/Slice0/Obligations.lean ====
section
/-!
DEFINITION. The statements for the provers, with the vocabulary they share. Rules are those of spec/; D<n> are
the spec's own decisions (spec/92_eei_decisions.md): a statement that rests on one, or on an entry of
notes/assumptions/, is 'derived' and says so.
-/

open Sys2Proof Sys2Proof.Machine

/-! ### Vocabulary -/

namespace Sys2Proof.Claims

/-- `t` is `s` but for general registers and the pc; every byte lane of data memory reads as before. -/
def RegsPcOnly (s t : State) : Prop :=
  t = { s with regs := t.regs, pc := t.pc } ∧ ∀ k, t.ramLane k = s.ramLane k

/-- The instruction completes: `rd` takes a value with `P`, no other register changes, the pc goes to the next
instruction, and nothing else changes. -/
def Writes (i : Instr) (s : State) (rd : Reg) (P : Word → Prop) : Prop :=
  ∃ t, exec i s = .next t ∧ P (t.reg rd) ∧ (∀ r, r ≠ rd → t.reg r = s.reg r) ∧
    t.pc = s.pc + s.cfg.pcStep.toWord ∧ RegsPcOnly s t

/-- The instruction completes: the flags become `eq` and `gt`, the pc goes to the next instruction, and nothing
else changes. -/
def WritesFlags (i : Instr) (s : State) (eq gt : Bool) : Prop :=
  ∃ t, exec i s = .next t ∧ t.flagEq = eq ∧ t.flagGt = gt ∧ t.pc = s.pc + s.cfg.pcStep.toWord ∧
    t = { s with flagEq := t.flagEq, flagGt := t.flagGt, pc := t.pc } ∧ ∀ k, t.ramLane k = s.ramLane k

/-- The instruction completes with the pc at `target` and nothing else changed. -/
def Jumps (i : Instr) (s : State) (target : Word) : Prop :=
  ∃ t, exec i s = .next t ∧ t.pc = target ∧ t = { s with pc := t.pc } ∧ ∀ k, t.ramLane k = s.ramLane k

/-- The shift amount as a number (R100): the low five bits, or the whole operand. -/
def shiftBy (m : ShamtMode) (b : Word) : Nat :=
  match m with
  | .low5 => b.toNat % 32
  | .full => b.toNat

/-- `i` is a load of `rd` from the cell `a`: both forms of `ld`, the address computed as R112 says. -/
inductive LoadsAt (s : State) : Instr → Reg → Word → Prop where
  | reg (rd rs1 rs2 : Reg) : LoadsAt s (.ldReg rd rs1 rs2) rd (s.reg rs1 + s.reg rs2)
  | imm (rd rs1 : Reg) (m : Modifier) (v : BitVec 16) :
      LoadsAt s (.ldImm rd rs1 m v) rd (s.reg rs1 + imm32 m v)

/-- `i` is a store of the value `v` to the cell `a`: both forms of `st`, the address computed as R112 says. -/
inductive StoresAt (s : State) : Instr → Word → Word → Prop where
  | reg (rd rs1 rs2 : Reg) : StoresAt s (.stReg rd rs1 rs2) (s.reg rd) (s.reg rs1 + s.reg rs2)
  | imm (rd rs1 : Reg) (m : Modifier) (v : BitVec 16) :
      StoresAt s (.stImm rd rs1 m v) (s.reg rd) (s.reg rs1 + imm32 m v)

/-- A cell of data memory, in a configuration the spec allows (R3, R43). -/
def InDataMemory (c : Config) (a : Word) : Prop :=
  c.wf ∧ c.ramBase.toNat ≤ a.toNat ∧ a.toNat < c.ramBase.toNat + c.ramWords

/-- A device address of the map (R43). -/
def IsDevice (a : Word) : Prop :=
  a = 0x00010000#32 ∨ a = 0x00010001#32 ∨ a = 0x00010002#32 ∨ a = 0x00010003#32 ∨ a = 0x00010004#32 ∨
    a = 0x00010011#32

/-- The guard of R55 lets a store to `a` through. -/
def NotGuarded (s : State) (a : Word) : Prop := ¬(s.cfg.codeStores = .guarded ∧ s.isCode a = true)

/-- The load completes into `rd` with a value that has `P`; `t` is the state after it. -/
def LoadDone (s : State) (i : Instr) (rd : Reg) (t : State) : Prop :=
  exec i s = .next t ∧ (∀ r, r ≠ rd → t.reg r = s.reg r) ∧ t.pc = s.pc + s.cfg.pcStep.toWord ∧
    ∀ k, t.ramLane k = s.ramLane k

/-- The store completes with no register changed; `t` is the state after it. -/
def StoreDone (s : State) (i : Instr) (t : State) : Prop :=
  exec i s = .next t ∧ t.regs = s.regs ∧ t.pc = s.pc + s.cfg.pcStep.toWord

/-- The bits a set may make 1: access RW (R20 to R25, R241). -/
def settableBit (c : Csr) (j : Nat) : Bool :=
  match c with
  | .i2c => decide (j < 9)
  | .spi => decide (j < 8)
  | .uart => decide (j < 8)
  | .watchdog => decide (j < 5)
  | .intcon => (decide (j < 16) && j % 2 == 1) || j == 16 || j == 17
  | .tmcon => decide (j < 7)

/-- The bits a clear may make 0: access RW or R-Clr (R20 to R25, R241). -/
def clearableBit (c : Csr) (j : Nat) : Bool :=
  match c with
  | .intcon => decide (j < 18)
  | _ => settableBit c j

/-- The number of bits of a CSR that exist (R19, R241). -/
def csrBits : Csr → Nat
  | .i2c => 9
  | .spi => 11
  | .uart => 8
  | .watchdog => 5
  | .intcon => 22
  | .tmcon => 7

/-- Bit `j` of the mask `v` placed in a half (R134). -/
def maskBit (h : Half) (v : BitVec 16) (j : Nat) : Bool :=
  match h with
  | .lower => decide (j < 16) && v.getLsbD j
  | .upper => decide (16 ≤ j) && v.getLsbD (j - 16)

/-- CSR bit `j` stands in the half. -/
def inHalf (h : Half) (j : Nat) : Bool :=
  match h with
  | .lower => decide (j < 16)
  | .upper => decide (16 ≤ j ∧ j < 32)

/-- The `csr mov` read of a half. -/
def csrReadOf (h : Half) (k : BitVec 4) (v : BitVec 16) : Instr :=
  match h with
  | .lower => .csrReadLo k v
  | .upper => .csrReadHi k v

/-- The `csr mov` set of a half. -/
def csrSetOf (h : Half) (k : BitVec 4) (v : BitVec 16) : Instr :=
  match h with
  | .lower => .csrSetLo k v
  | .upper => .csrSetHi k v

/-- The `csr mov` clear of a half. -/
def csrClearOf (h : Half) (k : BitVec 4) (v : BitVec 16) : Instr :=
  match h with
  | .lower => .csrClearLo k v
  | .upper => .csrClearHi k v

/-- Exactly the CSRs and the pc may differ; the pc is the next instruction's and every CSR but `c` is unchanged. -/
def CsrFrame (s t : State) (c : Csr) : Prop :=
  (∀ d, d ≠ c → t.csrStored d = s.csrStored d) ∧ t.pc = s.pc + s.cfg.pcStep.toWord ∧
    t = { s with csr1 := t.csr1, csr2 := t.csr2, csr3 := t.csr3, csr4 := t.csr4, csr5 := t.csr5
                 tmcon := t.tmcon, pc := t.pc } ∧ ∀ k, t.ramLane k = s.ramLane k

/-- Nothing stands before the instruction at the pc in the step from `s`: no halt, no reset, no interrupt entry
(R6 items 1 to 4). -/
def ReachesFetch (s : State) : Prop :=
  s.halted = false ∧ s.atBoundary.resetDue = false ∧ s.atBoundary.takenInterrupt s.boundary.samples = none

/-- `n` equal events, one after the other. -/
def repeated (s : State) (n : Nat) (e : EnvEvent) : State := s.applyEvents (List.replicate n e)

/-- The state after `k` edges of the SPI's clock, with `level i` on MISO at edge `i`. -/
def spiEdges (s : State) (level : Nat → Bool) (k : Nat) : State :=
  s.applyEvents ((List.range k).map fun i => .spiClock (level i))

/-- `n` steps, each of which leaves the pc as it was, none of them a reset: the processor hangs (R182, R184). -/
def StalledFor : Nat → State → Prop
  | 0, _ => True
  | n + 1, s => ∃ t, step s = .next t ∧ t.pc = s.pc ∧ t.epoch = s.epoch ∧ StalledFor n t

/-- The UART answers `PREADY = 1` (R221, R222): TXIF is set, or SPEN or TXEN is 0. -/
def UartReady (s : State) : Prop :=
  s.uart.txif = true ∨ s.csr3.getLsbD 5 = false ∨ s.csr3.getLsbD 1 = false

/-- The instructions that write a flag (R17): `cmp`, the `csr mov` read, `iret`. -/
def writesFlags : Instr → Bool
  | .cmpReg .. | .cmpImm .. | .csrReadLo .. | .csrReadHi .. | .iret => true
  | _ => false

/-- The instructions that read a flag (R17): `beq`, `bgt`. -/
def readsFlags : Instr → Bool
  | .beq .. | .bgt .. => true
  | _ => false

/-- The instructions that reach the data space (R113). -/
def reachesData : Instr → Bool
  | .ldReg .. | .ldImm .. | .stReg .. | .stImm .. => true
  | _ => false

/-- The instructions that reach the CSR space (R40): `csr mov` set and clear. -/
def writesCsr : Instr → Bool
  | .csrSetLo .. | .csrSetHi .. | .csrClearLo .. | .csrClearHi .. => true
  | _ => false

/-- The state with both flags replaced. -/
def withFlags (s : State) (e g : Bool) : State := { s with flagEq := e, flagGt := g }

end Sys2Proof.Claims

open Sys2Proof.Claims

/-! ### Encoding -/

/-- Decoding the word of an instruction gives the instruction back, every operand at every value, under both
policies for unassigned bits (30_encoding.md sections 1 to 3; the assignment of formats is D13). -/
def Obligations.DecodeEncodeAgree : Prop := ∀ (p : UnusedBits) (i : Instr), decode p (encode i) = .ok i

/-- Under `UNUSED_BITS_POLICY = refuse` each instruction has exactly one word, the encoder's (30_encoding.md,
D13). -/
def Obligations.RefusePolicyHasOneWord : Prop :=
  ∀ (w : Word) (i : Instr), decode .refuse w = .ok i ↔ w = encode i

/-- Which words have no instruction, and by which name, when unassigned bits are ignored: opcodes 22 to 31, modifier
11 of an immediate form, and the `csr mov` combinations outside the six (30_encoding.md section 4, D14, D17, D39). -/
def Obligations.RefusedWordsAreNamed : Prop :=
  ∀ w : Word,
    (decode .ignore w = .error .reservedOpcode ↔ 22 ≤ w.toNat / 2 ^ 27) ∧
    (22 ≤ w.toNat / 2 ^ 27 ∨ w.toNat / 2 ^ 27 ∈ [2, 13, 16, 17, 18, 19, 20, 21] ∨ w.getLsbD 26 = false →
      decode .ignore w ≠ .error .reservedModifier ∧ decode .ignore w ≠ .error .undefinedCsrOperation) ∧
    (w.toNat / 2 ^ 27 ∈ [0, 1, 3, 4, 5, 6, 7, 8, 10, 11, 12, 14, 15] ∧ w.getLsbD 26 = true →
      (decode .ignore w = .error .reservedModifier ↔ w.toNat / 2 ^ 16 % 4 = 3)) ∧
    (w.toNat / 2 ^ 27 = 9 ∧ w.getLsbD 26 = true ∧ w.getLsbD 21 = false →
      (decode .ignore w = .error .reservedModifier ↔ w.toNat / 2 ^ 16 % 4 = 3)) ∧
    (w.toNat / 2 ^ 27 = 9 ∧ w.getLsbD 26 = true ∧ w.getLsbD 21 = true →
      (decode .ignore w = .error .undefinedCsrOperation ↔
        w.toNat / 2 ^ 16 % 32 ∉ [0b10001, 0b10010, 0b01001, 0b01010, 0b00100, 0b00110])) ∧
    decode .ignore w ≠ .error .nonzeroUnusedBits ∧ decode .ignore w ≠ .error .truncated

/-- The three defined codes of the immediate modifier and what each makes of the 16 bits; code 11 in an immediate form is
refused by name (R64). -/
def Obligations.ImmediateModifierValues : Prop :=
  (∀ v : BitVec 16, (imm32 .signed v).toInt = v.toInt ∧ (imm32 .unsigned v).toNat = v.toNat ∧
    (imm32 .upper v).toNat = v.toNat * 2 ^ 16) ∧
  Modifier.ofBits 0b00#2 = some .signed ∧ Modifier.ofBits 0b01#2 = some .unsigned ∧
  Modifier.ofBits 0b10#2 = some .upper ∧
  ∀ (w : Word) (f : Reg → Reg → Reg → Instr) (g : Reg → Reg → Modifier → BitVec 16 → Instr),
    w.getLsbD 26 = true → w.getLsbD 17 = true → w.getLsbD 16 = true →
    decodeStarred w f g = .error .reservedModifier

/-- The words of the source's scenarios S1 to S6 and one word of each other family decode to their instructions
(95_test_vectors.md parts 1 and 2). -/
def Obligations.SpecWordsDecode : Prop :=
  decode .ignore 0x75840001#32 = .ok (.ldImm 6#4 1#4 .signed 1#16) ∧
  decode .ignore 0x7D040001#32 = .ok (.stImm 4#4 1#4 .signed 1#16) ∧
  decode .ignore 0x75040001#32 = .ok (.ldImm 4#4 1#4 .signed 1#16) ∧
  decode .ignore 0x7D440001#32 = .ok (.stImm 5#4 1#4 .signed 1#16) ∧
  decode .ignore 0x75440001#32 = .ok (.ldImm 5#4 1#4 .signed 1#16) ∧
  decode .ignore 0x7C480001#32 = .ok (.stImm 1#4 2#4 .signed 1#16) ∧
  decode .ignore 0x00C48000#32 = .ok (.addReg 3#4 1#4 2#4) ∧
  decode .ignore 0x4C420001#32 = .ok (.movImm 1#4 .upper 1#16) ∧
  decode .ignore 0x64C40001#32 = .ok (.asrImm 3#4 1#4 .signed 1#16) ∧
  decode .ignore 0x8FFFFFFE#32 = .ok (.bgt 0x7FFFFFE#27) ∧
  decode .ignore 0xA8000000#32 = .ok .iret ∧
  decode .ignore 0x4CE900E6#32 = .ok (.csrSetLo 3#4 0x00E6#16)

/-! ### Fetch and step -/

/-- When nothing stands before it (R6 items 1 to 4) and the bytes at the pc decode to `i`, the step is `exec i` on
the state after the boundary; and where no input is left, that state differs from `s` in the watchdog alone
(00_scope.md R6, D19, D29). That nothing happens once the inputs are used up is the model's choice, entry 7; what the
watchdog then counts is entry 15. -/
def Obligations.StepRunsDecodedInstruction : Prop :=
  ∀ (s : State) (bs : List Byte) (i : Instr), ReachesFetch s → s.atBoundary.fetchBytes = .ok bs →
    decodeBytes s.cfg.unusedBits bs = .ok i →
    step s = exec i s.atBoundary ∧ (s.inputs = [] → s.atBoundary = { s with wdt := s.atBoundary.wdt })

/-- The word a loader places at the pc is the one the fetch decodes (R41, D3; the lane order is entry 5). -/
def Obligations.FetchReadsPlacedWord : Prop :=
  ∀ (s : State) (w : Word) (i : Instr), pcAligned s.cfg s.pc = true → wordIndex s.cfg s.pc < s.cfg.imemWords →
    decode s.cfg.unusedBits w = .ok i → (s.withFetchWord 32 w.toNat).fetchInstr = .ok i

/-- A fetch at a misaligned pc, outside the instruction memory, or of a word no loader placed, and a word the decoder
refuses, stop the step by name (R15, R16, R41, R71, R72; D3, D14; entry 6). That a pc both misaligned and out of range is named
`misalignedPc` is the model's choice, entry 19. -/
def Obligations.FetchFaultsAreNamed : Prop :=
  ∀ s : State, ReachesFetch s →
    (s.atBoundary.pc.toNat % s.cfg.pcStep.toNat ≠ 0 → step s = .fault .misalignedPc) ∧
    (s.atBoundary.pc.toNat % s.cfg.pcStep.toNat = 0 →
      s.cfg.imemWords ≤ s.atBoundary.pc.toNat / s.cfg.pcStep.toNat → step s = .fault .fetchOutOfRange) ∧
    (s.atBoundary.pc.toNat % s.cfg.pcStep.toNat = 0 →
      s.atBoundary.pc.toNat / s.cfg.pcStep.toNat < s.cfg.imemWords →
      s.imem.wordLanes (s.atBoundary.pc.toNat / s.cfg.pcStep.toNat) = none → step s = .fault .fetchUnwritten) ∧
    (∀ w e, s.atBoundary.pc.toNat % s.cfg.pcStep.toNat = 0 →
      s.atBoundary.pc.toNat / s.cfg.pcStep.toNat < s.cfg.imemWords →
      s.imem.wordLanes (s.atBoundary.pc.toNat / s.cfg.pcStep.toNat) = some (wordBytes w) →
      decode s.cfg.unusedBits w = .error e →
      (e = .reservedOpcode → step s = .fault .reservedOpcode) ∧
      (e = .reservedModifier → step s = .fault .reservedModifier) ∧
      (e = .nonzeroUnusedBits → step s = .fault .nonzeroUnusedBits) ∧
      (e = .undefinedCsrOperation → step s = .fault .undefinedCsrOperation) ∧ e ≠ .truncated)

/-! ### Arithmetic, logic, move, compare -/

/-- `add` and `sub`, both forms: wrapping sum and difference, nothing else changed (40_alu.md, D6). -/
def Obligations.AddSubResult : Prop :=
  ∀ (s : State) (rd rs1 rs2 : Reg) (m : Modifier) (v : BitVec 16),
    Writes (.addReg rd rs1 rs2) s rd (fun x => x.toNat = ((s.reg rs1).toNat + (s.reg rs2).toNat) % 2 ^ 32) ∧
    Writes (.addImm rd rs1 m v) s rd (fun x => x.toNat = ((s.reg rs1).toNat + (imm32 m v).toNat) % 2 ^ 32) ∧
    Writes (.subReg rd rs1 rs2) s rd
      (fun x => (x.toNat : Int) = ((s.reg rs1).toNat - (s.reg rs2).toNat : Int) % 2 ^ 32) ∧
    Writes (.subImm rd rs1 m v) s rd
      (fun x => (x.toNat : Int) = ((s.reg rs1).toNat - (imm32 m v).toNat : Int) % 2 ^ 32)

/-- `xor`, `and`, `or`, both forms: bit by bit, nothing else changed (40_alu.md, D6). -/
def Obligations.LogicResult : Prop :=
  ∀ (s : State) (rd rs1 rs2 : Reg) (m : Modifier) (v : BitVec 16),
    Writes (.xorReg rd rs1 rs2) s rd (fun x => ∀ j, x.getLsbD j = ((s.reg rs1).getLsbD j != (s.reg rs2).getLsbD j)) ∧
    Writes (.xorImm rd rs1 m v) s rd (fun x => ∀ j, x.getLsbD j = ((s.reg rs1).getLsbD j != (imm32 m v).getLsbD j)) ∧
    Writes (.andReg rd rs1 rs2) s rd (fun x => ∀ j, x.getLsbD j = ((s.reg rs1).getLsbD j && (s.reg rs2).getLsbD j)) ∧
    Writes (.andImm rd rs1 m v) s rd (fun x => ∀ j, x.getLsbD j = ((s.reg rs1).getLsbD j && (imm32 m v).getLsbD j)) ∧
    Writes (.orReg rd rs1 rs2) s rd (fun x => ∀ j, x.getLsbD j = ((s.reg rs1).getLsbD j || (s.reg rs2).getLsbD j)) ∧
    Writes (.orImm rd rs1 m v) s rd (fun x => ∀ j, x.getLsbD j = ((s.reg rs1).getLsbD j || (imm32 m v).getLsbD j))

/-- `not` complements `op2` and `mov` copies it, both forms (40_alu.md, D6). -/
def Obligations.NotMovResult : Prop :=
  ∀ (s : State) (rd rs2 : Reg) (m : Modifier) (v : BitVec 16),
    Writes (.notReg rd rs2) s rd (fun x => ∀ j < 32, x.getLsbD j = !(s.reg rs2).getLsbD j) ∧
    Writes (.notImm rd m v) s rd (fun x => ∀ j < 32, x.getLsbD j = !(imm32 m v).getLsbD j) ∧
    Writes (.movReg rd rs2) s rd (fun x => x = s.reg rs2) ∧
    Writes (.movImm rd m v) s rd (fun x => x = imm32 m v)

/-- `asl` and `lsl`, both forms and both amount modes: multiplication by 2^n modulo 2^32 (41_shift.md, D8). -/
def Obligations.ShiftLeftResult : Prop :=
  ∀ (s : State) (rd rs1 rs2 : Reg) (m : Modifier) (v : BitVec 16),
    Writes (.aslReg rd rs1 rs2) s rd
      (fun x => x.toNat = (s.reg rs1).toNat * 2 ^ shiftBy s.cfg.shamtMode (s.reg rs2) % 2 ^ 32) ∧
    Writes (.aslImm rd rs1 m v) s rd
      (fun x => x.toNat = (s.reg rs1).toNat * 2 ^ shiftBy s.cfg.shamtMode (imm32 m v) % 2 ^ 32) ∧
    Writes (.lslReg rd rs1 rs2) s rd
      (fun x => x.toNat = (s.reg rs1).toNat * 2 ^ shiftBy s.cfg.shamtMode (s.reg rs2) % 2 ^ 32) ∧
    Writes (.lslImm rd rs1 m v) s rd
      (fun x => x.toNat = (s.reg rs1).toNat * 2 ^ shiftBy s.cfg.shamtMode (imm32 m v) % 2 ^ 32)

/-- `lsr` divides the unsigned value, `asr` the signed one, rounding down; both forms and both amount modes
(41_shift.md, D8). -/
def Obligations.ShiftRightResult : Prop :=
  ∀ (s : State) (rd rs1 rs2 : Reg) (m : Modifier) (v : BitVec 16),
    Writes (.lsrReg rd rs1 rs2) s rd
      (fun x => x.toNat = (s.reg rs1).toNat / 2 ^ shiftBy s.cfg.shamtMode (s.reg rs2)) ∧
    Writes (.lsrImm rd rs1 m v) s rd
      (fun x => x.toNat = (s.reg rs1).toNat / 2 ^ shiftBy s.cfg.shamtMode (imm32 m v)) ∧
    Writes (.asrReg rd rs1 rs2) s rd
      (fun x => x.toInt = (s.reg rs1).toInt / 2 ^ shiftBy s.cfg.shamtMode (s.reg rs2)) ∧
    Writes (.asrImm rd rs1 m v) s rd
      (fun x => x.toInt = (s.reg rs1).toInt / 2 ^ shiftBy s.cfg.shamtMode (imm32 m v))

/-- `cmp`, both forms: EQ on equality, GT on the signed order, never both (40_alu.md, D7). -/
def Obligations.CompareFlags : Prop :=
  ∀ (s : State) (rs1 rs2 : Reg) (m : Modifier) (v : BitVec 16),
    WritesFlags (.cmpReg rs1 rs2) s (decide (s.reg rs1 = s.reg rs2)) (decide ((s.reg rs2).toInt < (s.reg rs1).toInt)) ∧
    WritesFlags (.cmpImm rs1 m v) s (decide (s.reg rs1 = imm32 m v)) (decide ((imm32 m v).toInt < (s.reg rs1).toInt)) ∧
    ∀ i t, (i = .cmpReg rs1 rs2 ∨ i = .cmpImm rs1 m v) → exec i s = .next t → ¬(t.flagEq = true ∧ t.flagGt = true)

/-! ### Load and store -/

/-- A load from data memory completes with the cell's value, both forms (42_load_store.md, D9, D2). -/
def Obligations.LoadFromDataMemory : Prop :=
  ∀ (s : State) (i : Instr) (rd : Reg) (a : Word), LoadsAt s i rd a → InDataMemory s.cfg a →
    ∃ t, LoadDone s i rd t ∧ t.reg rd = s.ramCell a ∧
      t = { s with regs := t.regs, pc := t.pc, bus := .idle }

/-- A store to data memory completes: the addressed cell holds the value, every other cell and every lane outside it
reads as before, both forms (42_load_store.md, D9, D2). -/
def Obligations.StoreToDataMemory : Prop :=
  ∀ (s : State) (i : Instr) (v a : Word), StoresAt s i v a → InDataMemory s.cfg a → NotGuarded s a →
    ∃ t, StoreDone s i t ∧ t.ramCell a = v ∧ (∀ b, b ≠ a → t.ramCell b = s.ramCell b) ∧
      (∀ k, k / 4 ≠ a.toNat → t.ramLane k = s.ramLane k) ∧
      t = { s with ram := t.ram, pc := t.pc, bus := .idle }

/-- Where `ld` and `st` stop: an address in no range of the map, by name; and, under the guard of R55, a store to any
mapped address, of a device too, that falls in the loaded program (R46, R55; D33, D3; the guard is off by default, entry
28). That an unmapped address inside the program is named `unmappedAddress`, though the guard applies too, is the model's
choice, entry 19. -/
def Obligations.AccessFaults : Prop :=
  (∀ (s : State) (i : Instr) (rd : Reg) (v a : Word), LoadsAt s i rd a ∨ StoresAt s i v a → ¬ IsDevice a →
    ¬(s.cfg.ramBase.toNat ≤ a.toNat ∧ a.toNat < s.cfg.ramBase.toNat + s.cfg.ramWords) →
    exec i s = .fault .unmappedAddress) ∧
  (∀ (s : State) (i : Instr) (v a : Word), StoresAt s i v a → IsDevice a ∨ InDataMemory s.cfg a →
    s.cfg.codeStores = .guarded → s.isCode a = true → exec i s = .fault .storeToCode)

/-- A load or store to a device that answers `PREADY = 0` waits: the pc and everything else but the bus state stay
(20_memory.md R53; the UART's loads wait too, and neither waits while SPEN or TXEN is 0, entry 20). -/
def Obligations.BusyDeviceMakesAccessWait : Prop :=
  ∀ (s : State) (i : Instr) (rd : Reg) (v a : Word), LoadsAt s i rd a ∨ (StoresAt s i v a ∧ NotGuarded s a) →
    (a = 0x00010003#32 ∧ s.uart.txif = false ∧ s.csr3.getLsbD 5 = true ∧ s.csr3.getLsbD 1 = true) ∨
      (a = 0x00010004#32 ∧ (s.spi.fsm ≠ .idle ∨ s.spi.startCommand = true)) →
    exec i s = .next { s with bus := .access }

/-! ### Devices -/

/-- Loads from the PWM, GPIO TRIS and the timer complete with a value the spec leaves open (93, U11, D34). -/
def Obligations.LoadWithoutReadPathCompletes : Prop :=
  ∀ (s : State) (i : Instr) (rd : Reg) (a : Word), LoadsAt s i rd a →
    a = 0x00010000#32 ∨ a = 0x00010001#32 ∨ a = 0x00010002#32 →
    ∃ t, LoadDone s i rd t ∧
      t = { s with regs := t.regs, pc := t.pc, bus := .idle, freeCount := s.freeCount + 1 }

/-- A store to the PWM sets `pwm_reg`, and PR and the duty master take their fields; with TE = 0 the counter is put to 0;
with PE = 0 the output level is open, and else unchanged (61_devices.md section 2, 93 U27; when the two sub-registers
load is entry 26). -/
def Obligations.StoreToPwm : Prop :=
  ∀ (s : State) (i : Instr) (v : Word), StoresAt s i v 0x00010000#32 → NotGuarded s 0x00010000#32 →
    ∃ t, StoreDone s i t ∧ t.pwm.reg = v ∧ t.pwm.pr.toNat = v.toNat / 2 ^ 7 % 2 ^ 12 ∧
      t.pwm.dutyMaster.toNat = v.toNat / 2 ^ 19 % 2 ^ 12 ∧ t.pwm.dutySlave = s.pwm.dutySlave ∧
      (v.getLsbD 1 = true → t.pwm.tmr = s.pwm.tmr) ∧ (v.getLsbD 1 = false → t.pwm.tmr = 0#12) ∧
      (v.getLsbD 0 = true → t.pwm.out = s.pwm.out ∧ t.freeCount = s.freeCount) ∧
      (v.getLsbD 0 = false → t.freeCount = s.freeCount + 1) ∧
      t = { s with pwm := t.pwm, pc := t.pc, bus := .idle, freeCount := t.freeCount }

/-- A store to GPIO TRIS takes the low 16 bits, one for each pin: 1 makes it an input, whose level is the outside's, 0 an
output, which drives its PORT bit unless the outside overdrives it; a load from TRIS completes with an open value
(61_devices.md section 6, D34, 93 U11; the outside's levels are entry 27). -/
def Obligations.GpioTrisAccess : Prop :=
  (∀ (s : State) (i : Instr) (v : Word), StoresAt s i v 0x00010001#32 → NotGuarded s 0x00010001#32 →
    ∃ t, StoreDone s i t ∧ (∀ j < 16, t.gpio.tris.getLsbD j = v.getLsbD j) ∧
      (∀ j < 16, t.gpioPins.getLsbD j =
        if v.getLsbD j || s.gpio.overdrive.getLsbD j then s.gpio.ext.getLsbD j else s.gpio.port.getLsbD j) ∧
      t = { s with gpio := { s.gpio with tris := t.gpio.tris }, pc := t.pc, bus := .idle }) ∧
  (∀ (s : State) (i : Instr) (rd : Reg), LoadsAt s i rd 0x00010001#32 →
    ∃ t, LoadDone s i rd t ∧ t.gpio = s.gpio ∧
      t = { s with regs := t.regs, pc := t.pc, bus := .idle, freeCount := s.freeCount + 1 })

/-- A store to GPIO PORT writes the bits of output pins, which drive that level unless overdriven; an input pin's
level stays the outside's, and its PORT bit is open (R252, 93 U24; entry 27). -/
def Obligations.StoreToGpioPort : Prop :=
  ∀ (s : State) (i : Instr) (v : Word), StoresAt s i v 0x00010011#32 → NotGuarded s 0x00010011#32 →
    ∃ t, StoreDone s i t ∧
      (∀ j < 16, s.gpio.tris.getLsbD j = false → t.gpio.port.getLsbD j = v.getLsbD j ∧
        (s.gpio.overdrive.getLsbD j = false → t.gpioPins.getLsbD j = v.getLsbD j)) ∧
      (∀ j < 16, s.gpio.tris.getLsbD j = true → t.gpioPins.getLsbD j = s.gpioPins.getLsbD j) ∧
      t = { s with gpio := { s.gpio with port := t.gpio.port }, pc := t.pc, bus := .idle
                   freeCount := s.freeCount + 1 }

/-- A load from GPIO PORT returns the level on each pin in bits 15:0: the outside's for an input or overdriven pin,
the PORT bit else; the read latch takes them (61_devices.md section 6, D34). -/
def Obligations.LoadFromGpioPort : Prop :=
  ∀ (s : State) (i : Instr) (rd : Reg), LoadsAt s i rd 0x00010011#32 →
    ∃ t, LoadDone s i rd t ∧
      (∀ j < 16, (t.reg rd).getLsbD j =
        if s.gpio.tris.getLsbD j || s.gpio.overdrive.getLsbD j then s.gpio.ext.getLsbD j else s.gpio.port.getLsbD j) ∧
      (∀ j < 16, t.gpio.latch.getLsbD j = (t.reg rd).getLsbD j) ∧
      t = { s with regs := t.regs, pc := t.pc, bus := .idle, freeCount := s.freeCount + 1
                   gpio := { s.gpio with latch := t.gpio.latch } }

/-- A store to the timer loads the low 16 bits and clears `int_flag`, whether TIMER_ON is 0 or 1 (61_devices.md
section 5). -/
def Obligations.StoreToTimer : Prop :=
  ∀ (s : State) (i : Instr) (v : Word), StoresAt s i v 0x00010002#32 → NotGuarded s 0x00010002#32 →
    ∃ t, StoreDone s i t ∧ t.timer.count.toNat = v.toNat % 2 ^ 16 ∧ t.timer.intFlag = false ∧
      t.timer.chain = s.timer.chain ∧ t = { s with timer := t.timer, pc := t.pc, bus := .idle }

/-- The timer counts one up at each tick while TIMER_ON is 1, holds while it is 0, and after `0x10000 - v` ticks from
`v` has overflowed: count 0, `int_flag` and `timer_intf` set; then it has stopped (61_devices.md section 5; the wiring
of `timer_intf` is the spec's by matching names, the clocking entry 25). -/
def Obligations.TimerOverflows : Prop :=
  ∀ (s : State) (k : BitVec 4) (n : Nat), s.cfg.tmconCsr = some k → s.tmcon.getLsbD 5 = false →
    s.tmcon.getLsbD 3 = false → s.timer.intFlag = false →
    (s.tmcon.getLsbD 6 = false → (repeated s n (.timerClock .internal)).timer.count = s.timer.count ∧
      (repeated s n (.timerClock .internal)).timer.intFlag = false) ∧
    (s.tmcon.getLsbD 6 = true → n < 0x10000 - s.timer.count.toNat →
      (repeated s n (.timerClock .internal)).timer.count.toNat = s.timer.count.toNat + n ∧
      (repeated s n (.timerClock .internal)).timer.intFlag = false) ∧
    (s.tmcon.getLsbD 6 = true → 0x10000 - s.timer.count.toNat ≤ n →
      (repeated s n (.timerClock .internal)).timer.count = 0#16 ∧
      (repeated s n (.timerClock .internal)).timer.intFlag = true ∧
      (repeated s n (.timerClock .internal)).csr5.getLsbD 14 = true)

/-- With TE = PE = 1, from the end of a period (TMR = PR) the counter runs 0 to PR again in PR + 1 ticks, the duty slave
has taken the master, and the output is high in the ticks at which TMR is below the duty slave and low in the others, so
for exactly that many of the PR + 1 ticks; it is open where set and reset meet. With TE = 0 the counter stands at 0
(61_devices.md section 2, 93 U27; entry 26). -/
def Obligations.PwmPeriodIsPrPlusOne : Prop :=
  (∀ (s : State) (n : Nat), s.pwm.reg.getLsbD 0 = true → s.pwm.reg.getLsbD 1 = true → s.pwm.tmr = s.pwm.pr →
    (n ≤ s.pwm.pr.toNat →
      (repeated s (n + 1) .pwmTick).pwm.tmr.toNat = n ∧
      (repeated s (n + 1) .pwmTick).pwm.dutySlave = s.pwm.dutyMaster ∧
      (¬(n = s.pwm.dutyMaster.toNat ∧ n = s.pwm.pr.toNat) →
        (repeated s (n + 1) .pwmTick).pwm.out = decide (n < s.pwm.dutyMaster.toNat))) ∧
    (repeated s (s.pwm.pr.toNat + 2) .pwmTick).pwm.tmr = 0#12) ∧
  (∀ (s : State) (n : Nat), s.pwm.reg.getLsbD 1 = false → 0 < n → (repeated s n .pwmTick).pwm.tmr = 0#12)

/-- A store to a ready UART completes. With SPEN and TXEN set, TXREG takes the word, TXIF drops, and the word's bytes are
to be sent from the first; with one of them 0 nothing of the word is sent, and TXREG takes it if TXIF was set, TXIF then
being open. Nothing else of the UART changes (61_devices.md section 3, 93 U26; entries 20 and 21). -/
def Obligations.StoreToReadyUart : Prop :=
  ∀ (s : State) (i : Instr) (v : Word), StoresAt s i v 0x00010003#32 → NotGuarded s 0x00010003#32 → UartReady s →
    ∃ t, StoreDone s i t ∧
      (s.csr3.getLsbD 5 = true → s.csr3.getLsbD 1 = true →
        t.uart.txreg = v ∧ t.uart.txif = false ∧ t.uart.txPending = true ∧ t.uart.txSent = 0 ∧
        t.freeCount = s.freeCount) ∧
      (s.csr3.getLsbD 5 = false ∨ s.csr3.getLsbD 1 = false → s.uart.txif = true →
        t.uart.txreg = v ∧ t.uart.txPending = false ∧ t.uart.txSent = s.uart.txSent ∧
        t.freeCount = s.freeCount + 1) ∧
      (s.csr3.getLsbD 5 = false ∨ s.csr3.getLsbD 1 = false → s.uart.txif = false →
        t.uart = s.uart ∧ t.freeCount = s.freeCount) ∧
      t.uart = { s.uart with txreg := t.uart.txreg, txif := t.uart.txif, txPending := t.uart.txPending
                             txSent := t.uart.txSent } ∧
      t = { s with uart := t.uart, pc := t.pc, bus := .idle, freeCount := t.freeCount }

/-- After a store to an idle, enabled UART the line carries the bytes DATA CONTROL selects, the lowest first, eleven bit
times for each: the move to the shift register, a start bit 0, the eight bits low bit first, a stop bit 1. In one-byte
mode TXIF comes back when the byte moves to the shift register; in the longer modes with the stop bit of the last byte,
and not before (61_devices.md section 3; the bit times are entry 21). -/
def Obligations.UartSendsFrame : Prop :=
  ∀ (s : State) (v : Word) (n : Nat), s.csr3.getLsbD 5 = true → s.csr3.getLsbD 1 = true → s.uart.tsrBits = 0 →
    n = s.csr3.toNat / 64 + 1 →
    (∀ b < n, (repeated (s.storeUart v) (11 * b + 2) .uartTxTick).uart.txLine = false ∧
      (∀ j < 8, (repeated (s.storeUart v) (11 * b + 3 + j) .uartTxTick).uart.txLine = v.getLsbD (8 * b + j)) ∧
      (repeated (s.storeUart v) (11 * b + 11) .uartTxTick).uart.txLine = true) ∧
    (s.storeUart v).uart.txif = false ∧
    (n = 1 → ∀ k, 0 < k → (repeated (s.storeUart v) k .uartTxTick).uart.txif = true) ∧
    (1 < n → ∀ k, k < 11 * n → (repeated (s.storeUart v) k .uartTxTick).uart.txif = false) ∧
    (repeated (s.storeUart v) (11 * n) .uartTxTick).uart.txif = true ∧
    (repeated (s.storeUart v) (11 * n) .uartTxTick).uart.txPending = false ∧
    (repeated (s.storeUart v) (11 * n) .uartTxTick).uart.tsrBits = 0

/-- A frame on RX with a valid stop bit puts its byte in RCREG and sets RXIF when the last byte has been read; one with
an invalid stop bit is dropped and the pull-up forces RX high; while it does, no level driven on RX starts a frame
(61_devices.md section 3; the bit order of the receiver and the pull-up's end are entry 22). -/
def Obligations.UartReceivesByte : Prop :=
  (∀ (s : State) (b : Byte) (stop : Bool), s.csr3.getLsbD 5 = true → s.csr3.getLsbD 2 = true →
    s.uart.rxCount = 0 → s.uart.rxif = false → s.uart.pullupEn = false →
    let t := s.applyEvents ((false :: (List.range 8).map b.getLsbD ++ [stop]).map EnvEvent.uartRxBit)
    (stop = true → t.uart.rcreg = b ∧ t.uart.rxif = true ∧ t.uart.pullupEn = false) ∧
    (stop = false → t.uart.rcreg = s.uart.rcreg ∧ t.uart.rxif = false ∧ t.uart.pullupEn = true) ∧
    t.uart.rxCount = 0) ∧
  (∀ (s : State) (driven : Bool), s.uart.rxCount = 0 → s.uart.pullupEn = true →
    (s.uartRxBit driven).uart.rxCount = 0)

/-- A load from a ready UART completes and clears RXIF; with RXIF set its bits 7:0 are RCREG, the rest is open
(61_devices.md section 3, D34; the value with RXIF clear is entry 23, when a load waits entry 20). -/
def Obligations.LoadFromReadyUart : Prop :=
  ∀ (s : State) (i : Instr) (rd : Reg), LoadsAt s i rd 0x00010003#32 → UartReady s →
    ∃ t, LoadDone s i rd t ∧ (s.uart.rxif = true → (t.reg rd).toNat % 256 = s.uart.rcreg.toNat) ∧
      t.uart = { s.uart with rxif := false } ∧
      t = { s with regs := t.regs, pc := t.pc, bus := .idle, freeCount := s.freeCount + 1, uart := t.uart }

/-- A store to a ready SPI latches the word into the write buffer and sets `start_command`; `PREADY` is then 0, and
stays 0 in every state but IDLE; a store while `PREADY = 0` waits; leaving IDLE loads the shift register from the buffer,
and in master mode `start_command` makes the FSM leave it at the next edge with phase 1 (61_devices.md section 4; the wait
as a step is entry 20, the edges entry 24). -/
def Obligations.StoreStartsSpiTransfer : Prop :=
  (∀ (s : State) (i : Instr) (v : Word), StoresAt s i v 0x00010004#32 → NotGuarded s 0x00010004#32 →
    s.spiReady = true →
    ∃ t, StoreDone s i t ∧ t.spi = { s.spi with buffer := v, startCommand := true } ∧ t.spiReady = false ∧
      t = { s with spi := t.spi, pc := t.pc, bus := .idle }) ∧
  (∀ (s : State) (i : Instr) (v : Word), StoresAt s i v 0x00010004#32 → NotGuarded s 0x00010004#32 →
    s.spiReady = false → exec i s = .next { s with bus := .access }) ∧
  (∀ s : State, s.spi.fsm ≠ .idle → s.spiReady = false) ∧
  (∀ (s : State) (b : Bool), s.spi.fsm = .idle → (s.spiClock b).spi.fsm ≠ .idle →
    (s.spiClock b).spi.fsm = .assignCs ∧ (s.spiClock b).spi.shiftReg = s.spi.buffer) ∧
  (∀ (s : State) (b c : Bool), s.csr2.getLsbD 7 = true → s.spi.fsm = .idle → s.spi.startCommand = true →
    (s.spi.phase = true → (s.spiClock b).spi.fsm = .assignCs) ∧
    (s.spi.phase = false → (s.spiClock b).spi.fsm = .idle ∧ ((s.spiClock b).spiClock c).spi.fsm = .assignCs))

/-- A transfer of N = 8, 16 or 32 bits (32 for SIZE code 11), in master mode, or in slave mode with CPOL = CPHA = 0 and
`cs` asserted. After the edges of chip select MOSI carries the write buffer, highest bit first; after N bits the shift
register holds the levels of MISO at the N sampling edges, first level highest, below them nothing and above them what is
left of the buffer, and the FSM is in END; the next edges move it to `buffer_1`, the old `buffer_1` to `buffer_2`, set the
full flags or OVR, raise `spi_intf`, and return to IDLE with `PREADY = 1` (61_devices.md section 4; the edges are entry
24). -/
def Obligations.SpiTransferReceivesWord : Prop :=
  ∀ (s : State) (level : Nat → Bool) (N : Nat), s.spi.fsm = .idle → s.spi.phase = true → N = s.spiBits →
    (s.csr2.getLsbD 7 = true ∧ s.spi.startCommand = true) ∨
      (s.csr2.getLsbD 7 = false ∧ s.spi.slaveEnable = true ∧ s.csr2.getLsbD 0 = false ∧ s.csr2.getLsbD 1 = false) →
    let t := spiEdges s level (4 + 2 * N)
    let u := spiEdges s level (5 + 2 * N)
    (N = 8 ∨ N = 16 ∨ N = 32) ∧ (s.csr2.getLsbD 5 = true → s.csr2.getLsbD 6 = true → N = 32) ∧
    (∀ k < N, (spiEdges s level (4 + 2 * k)).spi.mosi = s.spi.buffer.getLsbD (31 - k)) ∧
    t.spi.fsm = .ending ∧
    (∀ j < 32, t.spi.shiftReg.getLsbD j =
      if j < N then level (4 + 2 * (N - 1 - j)) else s.spi.buffer.getLsbD (j - N)) ∧
    u.spi.fsm = .idle ∧ u.spiReady = true ∧ u.spi.buffer1 = t.spi.shiftReg ∧ u.spi.buffer2 = s.spi.buffer1 ∧
    u.csr5.getLsbD 10 = true ∧ u.csr2.getLsbD 9 = true ∧
    (u.csr2.getLsbD 10 = (s.csr2.getLsbD 9 || s.csr2.getLsbD 10)) ∧
    (u.csr2.getLsbD 8 = ((s.csr2.getLsbD 9 && s.csr2.getLsbD 10) || s.csr2.getLsbD 8))

/-- A load from a ready SPI completes: the older word while both buffers are full, else the newer one while it is
unread, and the full flag of the word read is cleared, the other kept; OVR is open afterwards (61_devices.md section 4,
93 U13; a state with Buf2 alone is covered as the rule's text has it). -/
def Obligations.LoadFromReadySpi : Prop :=
  ∀ (s : State) (i : Instr) (rd : Reg), LoadsAt s i rd 0x00010004#32 → s.spiReady = true →
    ∃ t, LoadDone s i rd t ∧
      (s.csr2.getLsbD 10 = true → t.reg rd = s.spi.buffer2 ∧ t.csr2.getLsbD 10 = false ∧
        t.csr2.getLsbD 9 = s.csr2.getLsbD 9) ∧
      (s.csr2.getLsbD 10 = false → s.csr2.getLsbD 9 = true → t.reg rd = s.spi.buffer1 ∧
        t.csr2.getLsbD 10 = false ∧ t.csr2.getLsbD 9 = false) ∧
      (s.csr2.getLsbD 10 = false → s.csr2.getLsbD 9 = false →
        t.csr2.getLsbD 10 = false ∧ t.csr2.getLsbD 9 = false) ∧
      (∀ j < 8, t.csr2.getLsbD j = s.csr2.getLsbD j) ∧
      t = { s with regs := t.regs, pc := t.pc, bus := .idle, freeCount := t.freeCount, csr2 := t.csr2 }

/-! ### Control transfer -/

/-- `beq`, `bgt`, `b`: the target is relative to the branch's own pc, signed, in units of `PC_STEP`; `beq` tests EQ
alone and `bgt` GT alone (43_branch.md, D10). -/
def Obligations.BranchTargets : Prop :=
  ∀ (s : State) (o : BitVec 27),
    Jumps (.beq o) s (if s.flagEq = true then BitVec.ofInt 32 (s.pc.toNat + o.toInt * s.cfg.pcStep.toNat)
      else s.pc + s.cfg.pcStep.toWord) ∧
    Jumps (.bgt o) s (if s.flagGt = true then BitVec.ofInt 32 (s.pc.toNat + o.toInt * s.cfg.pcStep.toNat)
      else s.pc + s.cfg.pcStep.toWord) ∧
    Jumps (.b o) s (BitVec.ofInt 32 (s.pc.toNat + o.toInt * s.cfg.pcStep.toNat))

/-- `call` writes the address after it to the link register and jumps; `ret` jumps to the link register's value where it
is aligned, and else stops by name (43_branch.md, D11; 10_state.md section 2, D3). -/
def Obligations.CallAndRet : Prop :=
  ∀ (s : State) (o : BitVec 27),
    (∃ t, exec (.call o) s = .next t ∧
      t.reg s.cfg.linkReg = s.pc + s.cfg.pcStep.toWord ∧ (∀ r, r ≠ s.cfg.linkReg → t.reg r = s.reg r) ∧
      t.pc = BitVec.ofInt 32 (s.pc.toNat + o.toInt * s.cfg.pcStep.toNat) ∧ RegsPcOnly s t) ∧
    ((s.reg s.cfg.linkReg).toNat % s.cfg.pcStep.toNat = 0 → Jumps .ret s (s.reg s.cfg.linkReg)) ∧
    ((s.reg s.cfg.linkReg).toNat % s.cfg.pcStep.toNat ≠ 0 → exec .ret s = .fault .misalignedPc)

/-! ### System -/

/-- `nop` only advances and `hlt` halts with the pc at the `hlt`. A halted machine executes nothing and takes no interrupt:
with EN = 0 it has no step, whatever the environment does, and with EN = 1 its step is the watchdog reset (44_system.md,
00_scope.md R6, 60_exceptions.md R184; D12, D13, D32; that the reset comes in the very next step is the model's
choice, entry 9; that it keeps the instruction memory and the configuration too, entries 6 and 14). -/
def Obligations.HltNopAndHaltedSteps : Prop :=
  ∀ s : State, Jumps .nop s (s.pc + s.cfg.pcStep.toWord) ∧ exec .hlt s = .next { s with halted := true } ∧
    (s.halted = true → s.watchdogEnabled = false → step s = .fault .halted) ∧
    (s.halted = true → s.watchdogEnabled = true →
      ∃ t, step s = .next t ∧ t.epoch = s.epoch + 1 ∧ t.halted = false ∧ t.pc = s.cfg.resetPc ∧
        t.gieh = true ∧ t.giel = true ∧ t.ram = [] ∧ t.imem = s.imem ∧ t.cfg = s.cfg)

/-- `iret`: pc from `r12`, flags from `r13`; the innermost active level ends, a nested high return re-enabling GIEH
alone, any other return both; interrupt flags and enables stay (44_system.md, D20, D21). -/
def Obligations.IretRestores : Prop :=
  ∀ s : State,
    ((s.reg 12#4).toNat % s.cfg.pcStep.toNat ≠ 0 → exec .iret s = .fault .misalignedPc) ∧
    ((s.reg 12#4).toNat % s.cfg.pcStep.toNat = 0 →
      ∃ t, exec .iret s = .next t ∧ t.pc = s.reg 12#4 ∧
        t.flagEq = (s.reg 13#4).getLsbD s.cfg.flagsLayout.eqBit.toNat ∧
        t.flagGt = (s.reg 13#4).getLsbD s.cfg.flagsLayout.gtBit.toNat ∧
        (∀ j < 16, t.csr5.getLsbD j = s.csr5.getLsbD j) ∧ t.csr5.getLsbD 20 = s.csr5.getLsbD 20 ∧
        (s.highActive = true → t.highActive = false ∧ t.gieh = true ∧ t.lowActive = s.lowActive ∧
          t.nested = s.nested ∧ t.giel = (s.giel || !s.nested)) ∧
        (s.highActive = false → s.lowActive = true → t.highActive = false ∧ t.lowActive = false ∧
          t.nested = false ∧ t.gieh = true ∧ t.giel = true) ∧
        (s.highActive = false → s.lowActive = false → t.csr5 = s.csr5) ∧
        t = { s with pc := t.pc, flagEq := t.flagEq, flagGt := t.flagGt, csr5 := t.csr5 } ∧
        ∀ k, t.ramLane k = s.ramLane k)

/-- `csr mov` read, both halves: its word; the one tested bit goes to the flags, EQ = not bit, GT = bit, and nothing else
changes but the pc; a reserved bit is open; with a mask of no bit or several the two flags are open (R135). -/
def Obligations.CsrReadTestsOneBit : Prop :=
  (∀ (h : Half) (k : BitVec 4) (v : BitVec 16), encode (csrReadOf h k v) =
    0x4C000000#32 ||| (k.setWidth 32 <<< 22) ||| 0x00200000#32 ||| 0x00100000#32 |||
      (if h = .upper then 0x00020000#32 else 0x00010000#32) ||| v.setWidth 32) ∧
  ∀ (s : State) (k : BitVec 4) (h : Half) (c : Csr),
    (∀ j < 16, let p := if h = .upper then j + 16 else j
      csrAt s.cfg (Instr.csrIndex s.cfg (csrReadOf h k (BitVec.twoPow 16 j))) = some c → p < csrBits c →
        WritesFlags (csrReadOf h k (BitVec.twoPow 16 j)) s (!(s.csrRead c).getLsbD p) ((s.csrRead c).getLsbD p)) ∧
    (∀ j < 16, let p := if h = .upper then j + 16 else j
      csrAt s.cfg (Instr.csrIndex s.cfg (csrReadOf h k (BitVec.twoPow 16 j))) = some c → csrBits c ≤ p →
        ∃ t, exec (csrReadOf h k (BitVec.twoPow 16 j)) s = .next t ∧ t.flagEq = !t.flagGt ∧
        t.pc = s.pc + s.cfg.pcStep.toWord ∧
        t = { s with flagEq := t.flagEq, flagGt := t.flagGt, pc := t.pc, freeCount := s.freeCount + 1 }) ∧
    (∀ v, csrAt s.cfg (Instr.csrIndex s.cfg (csrReadOf h k v)) = some c → (∀ j < 16, v ≠ BitVec.twoPow 16 j) →
      ∃ t, exec (csrReadOf h k v) s = .next t ∧
        t.pc = s.pc + s.cfg.pcStep.toWord ∧
        t = { s with flagEq := t.flagEq, flagGt := t.flagGt, pc := t.pc, freeCount := s.freeCount + 1 })

/-- What a read of a CSR sees: the stored bits, but bit 20 of `csr[5]` is `low_pending`, 1 exactly when some source
outside the high group is valid, its flag and enable both 1 (60_exceptions.md section 2, D24; the bits of each source are
those of `InterruptPins`). -/
def Obligations.LowPendingIsComputed : Prop :=
  ∀ s : State, (∀ c, c ≠ .intcon → s.csrRead c = s.csrStored c) ∧
    (∀ j < 32, j ≠ 20 → (s.csrRead .intcon).getLsbD j = (s.csrStored .intcon).getLsbD j) ∧
    ((s.csrRead .intcon).getLsbD 20 = true ↔ ∃ i, i ∉ s.cfg.highGroup ∧ s.validSource i = true)

/-- `csr mov` set, both halves: the RW bits the mask names become 1, every other bit of every CSR stays; a mask that
names a reserved bit is refused (44_system.md, D17, D18; the refusal on every CSR is entry 18; that the bit of `csr[4]`
which is not EN can be set is the model's choice, entry 32). -/
def Obligations.CsrSetSetsRwBits : Prop :=
  ∀ (s : State) (k : BitVec 4) (h : Half) (v : BitVec 16) (c : Csr),
    csrAt s.cfg (Instr.csrIndex s.cfg (csrSetOf h k v)) = some c →
    ((∀ j < 32, maskBit h v j = true → j < csrBits c) →
      ∃ t, exec (csrSetOf h k v) s = .next t ∧ CsrFrame s t c ∧
        ∀ j < 32, (t.csrStored c).getLsbD j = ((s.csrStored c).getLsbD j || (maskBit h v j && settableBit c j))) ∧
    ((∃ j, j < 32 ∧ maskBit h v j = true ∧ csrBits c ≤ j) →
      exec (csrSetOf h k v) s = .refused .reservedCsrBit)

/-- `csr mov` clear, both halves and both polarities: the RW and R-Clr bits of the half that the field marks become 0,
every other bit of every CSR stays (44_system.md, D16, D18; that the bit of `csr[4]` which is not EN can be cleared is the
model's choice, entry 32). -/
def Obligations.CsrClearClearsMarkedBits : Prop :=
  ∀ (s : State) (k : BitVec 4) (h : Half) (v : BitVec 16) (c : Csr),
    csrAt s.cfg (Instr.csrIndex s.cfg (csrClearOf h k v)) = some c →
    ∃ t, exec (csrClearOf h k v) s = .next t ∧ CsrFrame s t c ∧
      ∀ j < 32, (t.csrStored c).getLsbD j = ((s.csrStored c).getLsbD j &&
        !(clearableBit c j && inHalf h j && (maskBit h v j == decide (s.cfg.clearPolarity = .selectMask))))

/-- Which index names which CSR; which bits of the word the index is, for every `CSR_SELECT` and under the default one its
`rd` field; and the stop of the six `csr mov` forms on any other index (10_state.md section 4, D15, D37; that the
selection names four bit positions is entry 16). -/
def Obligations.UndefinedCsrFaults : Prop :=
  (∀ c : Config, csrAt c 1#4 = some .i2c ∧ csrAt c 2#4 = some .spi ∧ csrAt c 3#4 = some .uart ∧
    csrAt c 4#4 = some .watchdog ∧ csrAt c 5#4 = some .intcon ∧
    ∀ k : BitVec 4, k = 0#4 ∨ 6 ≤ k.toNat → c.tmconCsr = some k → csrAt c k = some .tmcon) ∧
  (∀ (c : Config) (i : Instr), (i.csrIndex c).toNat =
    ((encode i).getLsbD c.csrSelect.b3.toNat).toNat * 8 + ((encode i).getLsbD c.csrSelect.b2.toNat).toNat * 4 +
      ((encode i).getLsbD c.csrSelect.b1.toNat).toNat * 2 + ((encode i).getLsbD c.csrSelect.b0.toNat).toNat) ∧
  (∀ (c : Config) (h : Half) (k : BitVec 4) (v : BitVec 16), c.csrSelect = ⟨25#5, 24#5, 23#5, 22#5⟩ →
    (csrReadOf h k v).csrIndex c = k ∧ (csrSetOf h k v).csrIndex c = k ∧ (csrClearOf h k v).csrIndex c = k) ∧
  ∀ (s : State) (h : Half) (k : BitVec 4) (v : BitVec 16) (i : Instr),
    i = csrReadOf h k v ∨ i = csrSetOf h k v ∨ i = csrClearOf h k v →
    i.csrIndex s.cfg = 0#4 ∨ 6 ≤ (i.csrIndex s.cfg).toNat → s.cfg.tmconCsr ≠ some (i.csrIndex s.cfg) →
    exec i s = .fault .undefinedCsr

/-! ### Interrupts -/

/-- The two pins: high when some high-group source has flag AND enable, low when some other source has and no
high-group source has; never both. The flag and the enable of each of the eight sources are the bits listed (R153,
R154). -/
def Obligations.InterruptPins : Prop :=
  ∀ s : State,
    (s.validSource .eInt0 = (s.csr5.getLsbD 0 && s.csr5.getLsbD 1)) ∧
    (s.validSource .eInt1 = (s.csr5.getLsbD 2 && s.csr5.getLsbD 3)) ∧
    (s.validSource .eInt2 = (s.csr5.getLsbD 4 && s.csr5.getLsbD 5)) ∧
    (s.validSource .eInt3 = (s.csr5.getLsbD 6 && s.csr5.getLsbD 7)) ∧
    (s.validSource .uart = (s.csr5.getLsbD 8 && s.csr5.getLsbD 9)) ∧
    (s.validSource .spi = (s.csr5.getLsbD 10 && s.csr5.getLsbD 11)) ∧
    (s.validSource .i2c = (s.csr5.getLsbD 12 && s.csr5.getLsbD 13)) ∧
    (s.validSource .timer = (s.csr5.getLsbD 14 && s.csr5.getLsbD 15)) ∧
    (s.pinHigh = true ↔ ∃ i, i ∈ s.cfg.highGroup ∧ s.validSource i = true) ∧
    (s.pinLow = true ↔ (∃ i, i ∉ s.cfg.highGroup ∧ s.validSource i = true) ∧
      ¬ ∃ i, i ∈ s.cfg.highGroup ∧ s.validSource i = true) ∧
    ¬(s.pinHigh = true ∧ s.pinLow = true)

/-- The high-priority entry: with the high pin and GIEH set at a sampled boundary the step is the entry, which saves
the pc in `r12` and the flags in `r13`, clears both global enables, marks the level, and goes to `IVT_HIGH`; flags and
enables of the sources stay (60_exceptions.md sections 3 and 4, D19, D20, D23). -/
def Obligations.HighInterruptEntry : Prop :=
  ∀ s : State, s.atBoundary.resetDue = false → s.halted = false → s.bus = .idle → s.boundary.samples = true →
    s.atBoundary.pinHigh = true → s.atBoundary.gieh = true →
    ∃ t, step s = .next t ∧ t.reg 12#4 = s.pc ∧
      (∀ j < 32, (t.reg 13#4).getLsbD j =
        if j = s.cfg.flagsLayout.gtBit.toNat then s.flagGt
        else if j = s.cfg.flagsLayout.eqBit.toNat then s.flagEq else false) ∧
      (∀ r, r ≠ 12#4 → r ≠ 13#4 → t.reg r = s.reg r) ∧ t.pc = s.cfg.ivtHigh ∧
      t.gieh = false ∧ t.giel = false ∧ t.highActive = true ∧ t.lowActive = s.atBoundary.lowActive ∧
      t.nested = (s.atBoundary.nested || s.atBoundary.lowActive) ∧
      (∀ j < 16, t.csr5.getLsbD j = s.atBoundary.csr5.getLsbD j) ∧
      t = { s.atBoundary with regs := t.regs, pc := t.pc, csr5 := t.csr5 }

/-- The low-priority entry: with the low pin and GIEL set at a sampled boundary the step is the entry, which saves pc
and flags, clears GIEL alone, marks the level, and goes to `IVT_LOW` (60_exceptions.md sections 3 and 4, D19, D20,
D23). -/
def Obligations.LowInterruptEntry : Prop :=
  ∀ s : State, s.atBoundary.resetDue = false → s.halted = false → s.bus = .idle → s.boundary.samples = true →
    s.atBoundary.pinLow = true → s.atBoundary.giel = true →
    ∃ t, step s = .next t ∧ t.reg 12#4 = s.pc ∧ t.reg 13#4 = packFlags s.cfg.flagsLayout s.flagEq s.flagGt ∧
      (∀ r, r ≠ 12#4 → r ≠ 13#4 → t.reg r = s.reg r) ∧ t.pc = s.cfg.ivtLow ∧
      t.giel = false ∧ t.gieh = s.atBoundary.gieh ∧ t.lowActive = true ∧
      t.highActive = s.atBoundary.highActive ∧ t.nested = s.atBoundary.nested ∧
      (∀ j < 16, t.csr5.getLsbD j = s.atBoundary.csr5.getLsbD j) ∧
      t = { s.atBoundary with regs := t.regs, pc := t.pc, csr5 := t.csr5 }

/-- With neither pin let through by its global enable no interrupt is taken; so none is taken right after a high entry,
and only a high one right after a low entry; and none while a load or store waits on the bus (60_exceptions.md sections
2, 3 and 5, D19; the wait is entry 20). -/
def Obligations.GlobalEnablesGateEntries : Prop :=
  ∀ (s : State) (b : Bool),
    ((s.pinHigh = true → s.gieh = false) → (s.pinLow = true → s.giel = false) → s.takenInterrupt b = none) ∧
    (s.enterInterrupt .high).takenInterrupt b = none ∧
    (s.enterInterrupt .low).takenInterrupt b ≠ some .low ∧
    (s.bus ≠ .idle → s.takenInterrupt b = none)

/-- An interrupt entry followed at once by `iret` restores the pc and both flags, and every register but `r12` and
`r13`, and from outside any handler also the global enables that let it in (60_exceptions.md sections 4 and 5,
44_system.md; D20, D21). -/
def Obligations.EntryThenIretRestores : Prop :=
  ∀ (s : State) (l : Level), s.cfg.wf → s.PcAligned →
    ∃ t, exec .iret (s.enterInterrupt l) = .next t ∧ t.pc = s.pc ∧ t.flagEq = s.flagEq ∧ t.flagGt = s.flagGt ∧
      (∀ r, r ≠ 12#4 → r ≠ 13#4 → t.reg r = s.reg r) ∧ t.ram = s.ram ∧
      (s.highActive = false → s.lowActive = false → s.nested = false → s.gieh = true → s.giel = true →
        t.csr5 = s.csr5)

/-! ### Reset and watchdog -/

/-- What reset leaves, whatever the unspecified values are: pc at `RESET_PC`, not halted, GIEH = GIEL = 1, the SPI's
FSM idle with its status bits and buffers clear and `PREADY = 1`, the timer and the PWM at their reset values; and
`State.reset` is such a reset (70_reset_and_hazards.md section 1, 10_state.md section 8, 61_devices.md; D4, D31). -/
def Obligations.ResetLeavesStatedValues : Prop :=
  (∀ u : State, let r := u.applyReset
    r.pc = u.cfg.resetPc ∧ r.halted = false ∧ r.gieh = true ∧ r.giel = true ∧
    r.spi.fsm = .idle ∧ r.spiReady = true ∧ r.spi.buffer = 0#32 ∧ r.spi.buffer1 = 0#32 ∧ r.spi.buffer2 = 0#32 ∧
    (∀ j, 8 ≤ j → r.csr2.getLsbD j = false) ∧
    r.timer.count = 0#16 ∧ r.timer.intFlag = false ∧
    r.pwm.tmr = 0#12 ∧ r.pwm.dutyMaster = 0#12 ∧ r.pwm.pr = 0xFFF#12) ∧
  ∃ u : State, State.reset = u.applyReset ∧ u.cfg.resetPc = 0x00000000#32

/-- With EN = 0 the divider and the timer are held in reset, `pc_rst` is not asserted after any events, and no step is a
watchdog reset: a step is an interrupt entry or an instruction, and the count of resets stays (60_exceptions.md section
8, D32; the count is entry 4). -/
def Obligations.DisabledWatchdogNeverResets : Prop :=
  ∀ s : State, s.watchdogEnabled = false →
    s.atBoundary.wdt.divider = 0 ∧ s.atBoundary.wdt.count = 0 ∧ s.atBoundary.wdt.pcRst = false ∧
    s.atBoundary.resetDue = false ∧
    ∀ t, step s = .next t → t.epoch = s.epoch ∧
      ((∃ l, t = s.atBoundary.enterInterrupt l) ∨ ∃ i, exec i s.atBoundary = .next t)

/-- With EN = 1 a firing at the boundary makes the step a reset, halted or not: pc at `RESET_PC`, both global enables
set, not halted, data memory unspecified again, the instruction memory and the configuration kept. And a hang ends: with
EN = 1 no more than 4096 × 2^prescaler steps in a row leave the pc as it was without a reset, a one-instruction loop and
a wait on the bus among them (60_exceptions.md section 8, 70_reset_and_hazards.md section 1; D32; what survives is entry
14, the bound entry 15). -/
def Obligations.WatchdogFireResets : Prop :=
  (∀ (s : State) (es : List EnvEvent) (b : Bool) (rest : List Boundary), s.watchdogEnabled = true →
    s.inputs = ⟨es ++ [.watchdogFire], b⟩ :: rest →
    ∃ t, step s = .next t ∧ t.pc = s.cfg.resetPc ∧ t.halted = false ∧ t.gieh = true ∧ t.giel = true ∧
      t.ram = [] ∧ t.epoch = s.epoch + 1 ∧ t.wdt.pcRst = false ∧ t.imem = s.imem ∧ t.cfg = s.cfg ∧ t.inputs = rest) ∧
  (∀ (s : State) (n : Nat), s.watchdogEnabled = true → StalledFor n s → n ≤ 4096 * 2 ^ (s.csr4.toNat % 8))

/-- The timeout: from a refreshed watchdog with EN = 1, cycles in which the pc does not change assert `pc_rst` after
exactly 4096 × 2^prescaler of them. The refresh: 15 consecutive cycles in which it changes put the timer back to 0, fewer
leave the divider, the timer and `pc_rst` as cycles without a change do, and one cycle without a change starts the 15
anew (60_exceptions.md section 8; the cycle events are entry 15). -/
def Obligations.WatchdogTimeout : Prop :=
  (∀ (s : State) (n : Nat), s.watchdogEnabled = true → s.wdt.divider = 0 → s.wdt.count = 0 → s.wdt.pcRst = false →
    ((repeated s n (.watchdogCycle false)).wdt.pcRst = true ↔ 4096 * 2 ^ (s.csr4.toNat % 8) ≤ n)) ∧
  (∀ (s : State) (n : Nat), s.watchdogEnabled = true → s.pc ≠ s.wdt.lastPc → s.wdt.activity = 0 →
    (n < 15 → (repeated s n (.watchdogCycle true)).wdt.activity = n ∧
      (repeated s n (.watchdogCycle true)).wdt =
        { (repeated s n (.watchdogCycle false)).wdt with activity := n }) ∧
    (repeated s 15 (.watchdogCycle true)).wdt.count = 0 ∧ (repeated s 15 (.watchdogCycle true)).wdt.activity = 0) ∧
  (∀ s : State, (s.watchdogCycle false).wdt.activity = 0)

/-! ### Whole-machine rules -/

/-- No instruction but `cmp`, the `csr mov` read and `iret` changes a flag (10_state.md section 3, D6). -/
def Obligations.OnlyThreeInstructionsWriteFlags : Prop :=
  ∀ (i : Instr) (s t : State), writesFlags i = false → exec i s = .next t →
    t.flagEq = s.flagEq ∧ t.flagGt = s.flagGt

/-- No instruction but `beq` and `bgt` reads a flag: from two states that differ in the flags alone any other does the
same, and the two states after it are equal where it writes the flags, else differ in the flags alone (10_state.md section
3, D6). The two runs draw the same free values, since they have drawn equally many: the model's choice, entry 2. -/
def Obligations.OnlyBranchesReadFlags : Prop :=
  ∀ (i : Instr) (s : State) (e g : Bool), readsFlags i = false →
    exec i (withFlags s e g) =
      match exec i s with
      | .next t => .next (if writesFlags i then t else withFlags t e g)
      | .fault f => .fault f
      | .refused r => .refused r

/-- Only `ld` and `st` touch the data space: any other instruction leaves data memory, every device and the bus as they
were (42_load_store.md section on order and completion). -/
def Obligations.OnlyLoadStoreTouchDataSpace : Prop :=
  ∀ (i : Instr) (s t : State), reachesData i = false → exec i s = .next t →
    (∀ k, t.ramLane k = s.ramLane k) ∧ t.ram = s.ram ∧ t.pwm = s.pwm ∧ t.uart = s.uart ∧ t.spi = s.spi ∧
    t.timer = s.timer ∧ t.gpio = s.gpio ∧ t.bus = s.bus

/-- No instruction but `csr mov` set and clear changes a CSR, save that `iret` changes bits 21, 19:16 of `csr[5]` and a
load from the SPI its status bits 10:8 in `csr[2]`; no instruction at all but `iret` changes `is_nested_interrupt`,
`high_int_active` or `low_int_active`, and none makes a source's flag 1 (20_memory.md section 1, 10_state.md section 4,
44_system.md; D3, D18, D21). -/
def Obligations.OnlyCsrMovWritesCsrs : Prop :=
  ∀ (i : Instr) (s t : State), exec i s = .next t →
    (writesCsr i = false →
      t.csr1 = s.csr1 ∧ t.csr3 = s.csr3 ∧ t.csr4 = s.csr4 ∧ t.tmcon = s.tmcon ∧
      (∀ j < 8, t.csr2.getLsbD j = s.csr2.getLsbD j) ∧ (reachesData i = false → t.csr2 = s.csr2) ∧
      (∀ rd a, LoadsAt s i rd a → a ≠ 0x00010004#32 → t.csr2 = s.csr2) ∧
      (∀ v a, StoresAt s i v a → t.csr2 = s.csr2) ∧
      (∀ j < 16, t.csr5.getLsbD j = s.csr5.getLsbD j) ∧ t.csr5.getLsbD 20 = s.csr5.getLsbD 20 ∧
      (i ≠ .iret → t.csr5 = s.csr5)) ∧
    (i ≠ .iret → t.nested = s.nested ∧ t.highActive = s.highActive ∧ t.lowActive = s.lowActive) ∧
    ∀ j ∈ [0, 2, 4, 6, 8, 10, 12, 14], t.csr5.getLsbD j = true → s.csr5.getLsbD j = true

/-- No step changes the instruction memory or the configuration: instructions stand in a space no store reaches
(20_memory.md sections 1 and 7, D3; the configuration in `State` is entry 1; that a watchdog reset, a step too, keeps
the program is the model's choice, entries 6 and 14). -/
def Obligations.NoStepChangesProgram : Prop :=
  ∀ s t : State, step s = .next t → t.imem = s.imem ∧ t.cfg = s.cfg

/-- Every step keeps both memories in canonical form (entry 4). -/
def Obligations.StepKeepsMemoryCanonical : Prop :=
  ∀ s t : State, s.MemoryWf → step s = .next t → t.MemoryWf

/-- Under a configuration the spec allows, every step keeps the pc an instruction address (10_state.md section 2,
D3). -/
def Obligations.StepKeepsPcAligned : Prop :=
  ∀ s t : State, s.cfg.wf → s.PcAligned → step s = .next t → t.PcAligned

/-- The reset state meets every invariant: its configuration is one the spec allows, the memories are in canonical form,
the pc is an instruction address, no nested interrupt is marked and bit 20 of the stored `csr[5]` is 0 (70_reset_and_hazards.md
section 1, D4; the values the spec leaves open are entries 3 and 12). -/
def Obligations.ResetMeetsInvariants : Prop :=
  State.reset.cfg.wf ∧ State.reset.MemoryWf ∧ State.reset.PcAligned ∧ State.reset.NestedInLow ∧ State.reset.Bit20Clear

/-- Every step keeps bit 20 of the stored `csr[5]` 0, since `low_pending` has no storage; and every step that cannot be a
watchdog reset keeps 'a nested interrupt is one inside a low-priority handler' (60_exceptions.md section 2, D24; entry
17). -/
def Obligations.StepKeepsInterruptStatus : Prop :=
  ∀ s t : State, step s = .next t →
    (s.Bit20Clear → t.Bit20Clear) ∧ (s.watchdogEnabled = false → s.NestedInLow → t.NestedInLow)
end

