-- ==== Sys2Proof/Laws/Decode.lean ====
section
/-!
SUPPORT. What each field of each encoding format reads as (spec/30_encoding.md R61, R67), and the modifier
codes (R64).
-/

namespace Sys2Proof

@[simp] theorem opField_encodeReg (op : BitVec 5) (rd rs1 rs2 : Reg) : opField (encodeReg op rd rs1 rs2) = op := by
  apply BitVec.eq_of_getLsbD_eq
  intro i hi
  simp only [opField, encodeReg, BitVec.getLsbD_extractLsb', BitVec.getLsbD_append]
  grind

@[simp] theorem immFlag_encodeReg (op : BitVec 5) (rd rs1 rs2 : Reg) : immFlag (encodeReg op rd rs1 rs2) = 0#1 := by
  apply BitVec.eq_of_getLsbD_eq
  intro i hi
  simp only [immFlag, encodeReg, BitVec.getLsbD_extractLsb', BitVec.getLsbD_append]
  grind

@[simp] theorem rdField_encodeReg (op : BitVec 5) (rd rs1 rs2 : Reg) : rdField (encodeReg op rd rs1 rs2) = rd := by
  apply BitVec.eq_of_getLsbD_eq
  intro i hi
  simp only [rdField, encodeReg, BitVec.getLsbD_extractLsb', BitVec.getLsbD_append]
  grind

@[simp] theorem rs1Field_encodeReg (op : BitVec 5) (rd rs1 rs2 : Reg) : rs1Field (encodeReg op rd rs1 rs2) = rs1 := by
  apply BitVec.eq_of_getLsbD_eq
  intro i hi
  simp only [rs1Field, encodeReg, BitVec.getLsbD_extractLsb', BitVec.getLsbD_append]
  grind

@[simp] theorem rs2Field_encodeReg (op : BitVec 5) (rd rs1 rs2 : Reg) : rs2Field (encodeReg op rd rs1 rs2) = rs2 := by
  apply BitVec.eq_of_getLsbD_eq
  intro i hi
  simp only [rs2Field, encodeReg, BitVec.getLsbD_extractLsb', BitVec.getLsbD_append]
  grind

@[simp] theorem opField_encodeImm (op : BitVec 5) (rd rs1 : Reg) (m : Modifier) (v : BitVec 16) : opField (encodeImm op rd rs1 m v) = op := by
  apply BitVec.eq_of_getLsbD_eq
  intro i hi
  simp only [opField, encodeImm, BitVec.getLsbD_extractLsb', BitVec.getLsbD_append]
  grind

@[simp] theorem immFlag_encodeImm (op : BitVec 5) (rd rs1 : Reg) (m : Modifier) (v : BitVec 16) : immFlag (encodeImm op rd rs1 m v) = 1#1 := by
  apply BitVec.eq_of_getLsbD_eq
  intro i hi
  simp only [immFlag, encodeImm, BitVec.getLsbD_extractLsb', BitVec.getLsbD_append]
  grind

@[simp] theorem rdField_encodeImm (op : BitVec 5) (rd rs1 : Reg) (m : Modifier) (v : BitVec 16) : rdField (encodeImm op rd rs1 m v) = rd := by
  apply BitVec.eq_of_getLsbD_eq
  intro i hi
  simp only [rdField, encodeImm, BitVec.getLsbD_extractLsb', BitVec.getLsbD_append]
  grind

@[simp] theorem rs1Field_encodeImm (op : BitVec 5) (rd rs1 : Reg) (m : Modifier) (v : BitVec 16) : rs1Field (encodeImm op rd rs1 m v) = rs1 := by
  apply BitVec.eq_of_getLsbD_eq
  intro i hi
  simp only [rs1Field, encodeImm, BitVec.getLsbD_extractLsb', BitVec.getLsbD_append]
  grind

@[simp] theorem modField_encodeImm (op : BitVec 5) (rd rs1 : Reg) (m : Modifier) (v : BitVec 16) : modField (encodeImm op rd rs1 m v) = m.toBits := by
  apply BitVec.eq_of_getLsbD_eq
  intro i hi
  simp only [modField, encodeImm, BitVec.getLsbD_extractLsb', BitVec.getLsbD_append]
  grind

@[simp] theorem immField_encodeImm (op : BitVec 5) (rd rs1 : Reg) (m : Modifier) (v : BitVec 16) : immField (encodeImm op rd rs1 m v) = v := by
  apply BitVec.eq_of_getLsbD_eq
  intro i hi
  simp only [immField, encodeImm, BitVec.getLsbD_extractLsb', BitVec.getLsbD_append]
  grind

@[simp] theorem opField_encodeBranch (op : BitVec 5) (o : BitVec 27) : opField (encodeBranch op o) = op := by
  apply BitVec.eq_of_getLsbD_eq
  intro i hi
  simp only [opField, encodeBranch, BitVec.getLsbD_extractLsb', BitVec.getLsbD_append]
  grind

@[simp] theorem offsetField_encodeBranch (op : BitVec 5) (o : BitVec 27) : offsetField (encodeBranch op o) = o := by
  apply BitVec.eq_of_getLsbD_eq
  intro i hi
  simp only [offsetField, encodeBranch, BitVec.getLsbD_extractLsb', BitVec.getLsbD_append]
  grind

@[simp] theorem opField_encodeBare (op : BitVec 5) : opField (encodeBare op) = op := by
  apply BitVec.eq_of_getLsbD_eq
  intro i hi
  simp only [opField, encodeBare, BitVec.getLsbD_extractLsb', BitVec.getLsbD_append]
  grind

@[simp] theorem opField_encodeCsr (k : BitVec 4) (ops : BitVec 3) (m : BitVec 2) (v : BitVec 16) : opField (encodeCsr k ops m v) = 0b01001#5 := by
  apply BitVec.eq_of_getLsbD_eq
  intro i hi
  simp only [opField, encodeCsr, BitVec.getLsbD_extractLsb', BitVec.getLsbD_append]
  grind

@[simp] theorem immFlag_encodeCsr (k : BitVec 4) (ops : BitVec 3) (m : BitVec 2) (v : BitVec 16) : immFlag (encodeCsr k ops m v) = 1#1 := by
  apply BitVec.eq_of_getLsbD_eq
  intro i hi
  simp only [immFlag, encodeCsr, BitVec.getLsbD_extractLsb', BitVec.getLsbD_append]
  grind

@[simp] theorem rdField_encodeCsr (k : BitVec 4) (ops : BitVec 3) (m : BitVec 2) (v : BitVec 16) : rdField (encodeCsr k ops m v) = k := by
  apply BitVec.eq_of_getLsbD_eq
  intro i hi
  simp only [rdField, encodeCsr, BitVec.getLsbD_extractLsb', BitVec.getLsbD_append]
  grind

@[simp] theorem csrModeField_encodeCsr (k : BitVec 4) (ops : BitVec 3) (m : BitVec 2) (v : BitVec 16) : csrModeField (encodeCsr k ops m v) = 1#1 := by
  apply BitVec.eq_of_getLsbD_eq
  intro i hi
  simp only [csrModeField, encodeCsr, BitVec.getLsbD_extractLsb', BitVec.getLsbD_append]
  grind

@[simp] theorem csrOpsField_encodeCsr (k : BitVec 4) (ops : BitVec 3) (m : BitVec 2) (v : BitVec 16) : csrOpsField (encodeCsr k ops m v) = ops := by
  apply BitVec.eq_of_getLsbD_eq
  intro i hi
  simp only [csrOpsField, encodeCsr, BitVec.getLsbD_extractLsb', BitVec.getLsbD_append]
  grind

@[simp] theorem modField_encodeCsr (k : BitVec 4) (ops : BitVec 3) (m : BitVec 2) (v : BitVec 16) : modField (encodeCsr k ops m v) = m := by
  apply BitVec.eq_of_getLsbD_eq
  intro i hi
  simp only [modField, encodeCsr, BitVec.getLsbD_extractLsb', BitVec.getLsbD_append]
  grind

@[simp] theorem immField_encodeCsr (k : BitVec 4) (ops : BitVec 3) (m : BitVec 2) (v : BitVec 16) : immField (encodeCsr k ops m v) = v := by
  apply BitVec.eq_of_getLsbD_eq
  intro i hi
  simp only [immField, encodeCsr, BitVec.getLsbD_extractLsb', BitVec.getLsbD_append]
  grind

/-- `mov` and `not` immediates: the bit `csr_mode` is the top bit of the `rs1` field. -/
theorem csrModeField_encodeImm (op : BitVec 5) (rd : Reg) (m : Modifier) (v : BitVec 16) :
    csrModeField (encodeImm op rd 0#4 m v) = 0#1 := by
  apply BitVec.eq_of_getLsbD_eq
  intro i hi
  simp only [csrModeField, encodeImm, BitVec.getLsbD_extractLsb', BitVec.getLsbD_append]
  grind

@[simp] theorem Modifier.ofBits_toBits (m : Modifier) : Modifier.ofBits m.toBits = some m := by
  cases m <;> rfl

theorem Modifier.ofBits_eq_none {m : BitVec 2} : Modifier.ofBits m = none ↔ m = 0b11#2 := by
  revert m; decide

/-- A starred instruction of the register form decodes to its fields. -/
theorem decodeStarred_encodeReg (op : BitVec 5) (rd rs1 rs2 : Reg) (f g) :
    decodeStarred (encodeReg op rd rs1 rs2) f g = .ok (f rd rs1 rs2) := by
  simp [decodeStarred]

/-- A starred instruction of the immediate form decodes to its fields. -/
theorem decodeStarred_encodeImm (op : BitVec 5) (rd rs1 : Reg) (m : Modifier) (v : BitVec 16) (f g) :
    decodeStarred (encodeImm op rd rs1 m v) f g = .ok (g rd rs1 m v) := by
  simp [decodeStarred]

/-- Under the default `CSR_SELECT` the CSR index of a `csr mov` is its `rd` field (R68). -/
theorem csrIndex_default (w : Word) : Config.default.csrIndex w = rdField w := by
  apply BitVec.eq_of_getLsbD_eq
  intro i hi
  simp only [Config.csrIndex, Config.default, rdField, BitVec.getLsbD_append, BitVec.getLsbD_extractLsb',
    BitVec.getLsbD_ofBool, BitVec.toNat_ofNat]
  have : i = 0 ∨ i = 1 ∨ i = 2 ∨ i = 3 := by omega
  rcases this with rfl | rfl | rfl | rfl <;> simp

/-- Decoding a word of bytes is decoding the word. -/
theorem decodeBytes_wordBytes (p : UnusedBits) (w : Word) : decodeBytes p (wordBytes w) = decode p w := by
  have : bytesWord (w.extractLsb' 0 8) (w.extractLsb' 8 8) (w.extractLsb' 16 8) (w.extractLsb' 24 8) = w := by
    apply BitVec.eq_of_getLsbD_eq
    intro i hi
    simp only [bytesWord, BitVec.getLsbD_append, BitVec.getLsbD_extractLsb']
    grind
  simp [decodeBytes, wordBytes, this]

end Sys2Proof
end

