-- ==== Sys2Proof/Laws/State.lean ====
section
/-!
SUPPORT. One lemma for each field of `State` under each named update, true by `rfl`, so that no later proof
unfolds a record update.
-/

namespace Sys2Proof.Machine

variable (s : State)

/-! ### `State.setReg` -/

@[simp] theorem State.setReg_regs (r : Reg) (v : Word) : (s.setReg r v).regs = s.regs.set r.toNat v r.isLt := rfl
@[simp] theorem State.setReg_pc (r : Reg) (v : Word) : (s.setReg r v).pc = s.pc := rfl
@[simp] theorem State.setReg_flagEq (r : Reg) (v : Word) : (s.setReg r v).flagEq = s.flagEq := rfl
@[simp] theorem State.setReg_flagGt (r : Reg) (v : Word) : (s.setReg r v).flagGt = s.flagGt := rfl
@[simp] theorem State.setReg_halted (r : Reg) (v : Word) : (s.setReg r v).halted = s.halted := rfl
@[simp] theorem State.setReg_csr1 (r : Reg) (v : Word) : (s.setReg r v).csr1 = s.csr1 := rfl
@[simp] theorem State.setReg_csr2 (r : Reg) (v : Word) : (s.setReg r v).csr2 = s.csr2 := rfl
@[simp] theorem State.setReg_csr3 (r : Reg) (v : Word) : (s.setReg r v).csr3 = s.csr3 := rfl
@[simp] theorem State.setReg_csr4 (r : Reg) (v : Word) : (s.setReg r v).csr4 = s.csr4 := rfl
@[simp] theorem State.setReg_csr5 (r : Reg) (v : Word) : (s.setReg r v).csr5 = s.csr5 := rfl
@[simp] theorem State.setReg_tmcon (r : Reg) (v : Word) : (s.setReg r v).tmcon = s.tmcon := rfl
@[simp] theorem State.setReg_ram (r : Reg) (v : Word) : (s.setReg r v).ram = s.ram := rfl
@[simp] theorem State.setReg_imem (r : Reg) (v : Word) : (s.setReg r v).imem = s.imem := rfl
@[simp] theorem State.setReg_bus (r : Reg) (v : Word) : (s.setReg r v).bus = s.bus := rfl
@[simp] theorem State.setReg_pwm (r : Reg) (v : Word) : (s.setReg r v).pwm = s.pwm := rfl
@[simp] theorem State.setReg_uart (r : Reg) (v : Word) : (s.setReg r v).uart = s.uart := rfl
@[simp] theorem State.setReg_spi (r : Reg) (v : Word) : (s.setReg r v).spi = s.spi := rfl
@[simp] theorem State.setReg_timer (r : Reg) (v : Word) : (s.setReg r v).timer = s.timer := rfl
@[simp] theorem State.setReg_gpio (r : Reg) (v : Word) : (s.setReg r v).gpio = s.gpio := rfl
@[simp] theorem State.setReg_wdt (r : Reg) (v : Word) : (s.setReg r v).wdt = s.wdt := rfl
@[simp] theorem State.setReg_inputs (r : Reg) (v : Word) : (s.setReg r v).inputs = s.inputs := rfl
@[simp] theorem State.setReg_freeCount (r : Reg) (v : Word) : (s.setReg r v).freeCount = s.freeCount := rfl
@[simp] theorem State.setReg_epoch (r : Reg) (v : Word) : (s.setReg r v).epoch = s.epoch := rfl
@[simp] theorem State.setReg_cfg (r : Reg) (v : Word) : (s.setReg r v).cfg = s.cfg := rfl

/-! ### `State.jump` -/

@[simp] theorem State.jump_regs (t : Word) : (s.jump t).regs = s.regs := rfl
@[simp] theorem State.jump_pc (t : Word) : (s.jump t).pc = t := rfl
@[simp] theorem State.jump_flagEq (t : Word) : (s.jump t).flagEq = s.flagEq := rfl
@[simp] theorem State.jump_flagGt (t : Word) : (s.jump t).flagGt = s.flagGt := rfl
@[simp] theorem State.jump_halted (t : Word) : (s.jump t).halted = s.halted := rfl
@[simp] theorem State.jump_csr1 (t : Word) : (s.jump t).csr1 = s.csr1 := rfl
@[simp] theorem State.jump_csr2 (t : Word) : (s.jump t).csr2 = s.csr2 := rfl
@[simp] theorem State.jump_csr3 (t : Word) : (s.jump t).csr3 = s.csr3 := rfl
@[simp] theorem State.jump_csr4 (t : Word) : (s.jump t).csr4 = s.csr4 := rfl
@[simp] theorem State.jump_csr5 (t : Word) : (s.jump t).csr5 = s.csr5 := rfl
@[simp] theorem State.jump_tmcon (t : Word) : (s.jump t).tmcon = s.tmcon := rfl
@[simp] theorem State.jump_ram (t : Word) : (s.jump t).ram = s.ram := rfl
@[simp] theorem State.jump_imem (t : Word) : (s.jump t).imem = s.imem := rfl
@[simp] theorem State.jump_bus (t : Word) : (s.jump t).bus = s.bus := rfl
@[simp] theorem State.jump_pwm (t : Word) : (s.jump t).pwm = s.pwm := rfl
@[simp] theorem State.jump_uart (t : Word) : (s.jump t).uart = s.uart := rfl
@[simp] theorem State.jump_spi (t : Word) : (s.jump t).spi = s.spi := rfl
@[simp] theorem State.jump_timer (t : Word) : (s.jump t).timer = s.timer := rfl
@[simp] theorem State.jump_gpio (t : Word) : (s.jump t).gpio = s.gpio := rfl
@[simp] theorem State.jump_wdt (t : Word) : (s.jump t).wdt = s.wdt := rfl
@[simp] theorem State.jump_inputs (t : Word) : (s.jump t).inputs = s.inputs := rfl
@[simp] theorem State.jump_freeCount (t : Word) : (s.jump t).freeCount = s.freeCount := rfl
@[simp] theorem State.jump_epoch (t : Word) : (s.jump t).epoch = s.epoch := rfl
@[simp] theorem State.jump_cfg (t : Word) : (s.jump t).cfg = s.cfg := rfl

/-! ### `State.advance` -/

@[simp] theorem State.advance_regs : (s.advance).regs = s.regs := rfl
@[simp] theorem State.advance_pc : (s.advance).pc = s.nextPc := rfl
@[simp] theorem State.advance_flagEq : (s.advance).flagEq = s.flagEq := rfl
@[simp] theorem State.advance_flagGt : (s.advance).flagGt = s.flagGt := rfl
@[simp] theorem State.advance_halted : (s.advance).halted = s.halted := rfl
@[simp] theorem State.advance_csr1 : (s.advance).csr1 = s.csr1 := rfl
@[simp] theorem State.advance_csr2 : (s.advance).csr2 = s.csr2 := rfl
@[simp] theorem State.advance_csr3 : (s.advance).csr3 = s.csr3 := rfl
@[simp] theorem State.advance_csr4 : (s.advance).csr4 = s.csr4 := rfl
@[simp] theorem State.advance_csr5 : (s.advance).csr5 = s.csr5 := rfl
@[simp] theorem State.advance_tmcon : (s.advance).tmcon = s.tmcon := rfl
@[simp] theorem State.advance_ram : (s.advance).ram = s.ram := rfl
@[simp] theorem State.advance_imem : (s.advance).imem = s.imem := rfl
@[simp] theorem State.advance_bus : (s.advance).bus = s.bus := rfl
@[simp] theorem State.advance_pwm : (s.advance).pwm = s.pwm := rfl
@[simp] theorem State.advance_uart : (s.advance).uart = s.uart := rfl
@[simp] theorem State.advance_spi : (s.advance).spi = s.spi := rfl
@[simp] theorem State.advance_timer : (s.advance).timer = s.timer := rfl
@[simp] theorem State.advance_gpio : (s.advance).gpio = s.gpio := rfl
@[simp] theorem State.advance_wdt : (s.advance).wdt = s.wdt := rfl
@[simp] theorem State.advance_inputs : (s.advance).inputs = s.inputs := rfl
@[simp] theorem State.advance_freeCount : (s.advance).freeCount = s.freeCount := rfl
@[simp] theorem State.advance_epoch : (s.advance).epoch = s.epoch := rfl
@[simp] theorem State.advance_cfg : (s.advance).cfg = s.cfg := rfl

/-! ### `State.setFlags` -/

@[simp] theorem State.setFlags_regs (eq gt : Bool) : (s.setFlags eq gt).regs = s.regs := rfl
@[simp] theorem State.setFlags_pc (eq gt : Bool) : (s.setFlags eq gt).pc = s.pc := rfl
@[simp] theorem State.setFlags_flagEq (eq gt : Bool) : (s.setFlags eq gt).flagEq = eq := rfl
@[simp] theorem State.setFlags_flagGt (eq gt : Bool) : (s.setFlags eq gt).flagGt = gt := rfl
@[simp] theorem State.setFlags_halted (eq gt : Bool) : (s.setFlags eq gt).halted = s.halted := rfl
@[simp] theorem State.setFlags_csr1 (eq gt : Bool) : (s.setFlags eq gt).csr1 = s.csr1 := rfl
@[simp] theorem State.setFlags_csr2 (eq gt : Bool) : (s.setFlags eq gt).csr2 = s.csr2 := rfl
@[simp] theorem State.setFlags_csr3 (eq gt : Bool) : (s.setFlags eq gt).csr3 = s.csr3 := rfl
@[simp] theorem State.setFlags_csr4 (eq gt : Bool) : (s.setFlags eq gt).csr4 = s.csr4 := rfl
@[simp] theorem State.setFlags_csr5 (eq gt : Bool) : (s.setFlags eq gt).csr5 = s.csr5 := rfl
@[simp] theorem State.setFlags_tmcon (eq gt : Bool) : (s.setFlags eq gt).tmcon = s.tmcon := rfl
@[simp] theorem State.setFlags_ram (eq gt : Bool) : (s.setFlags eq gt).ram = s.ram := rfl
@[simp] theorem State.setFlags_imem (eq gt : Bool) : (s.setFlags eq gt).imem = s.imem := rfl
@[simp] theorem State.setFlags_bus (eq gt : Bool) : (s.setFlags eq gt).bus = s.bus := rfl
@[simp] theorem State.setFlags_pwm (eq gt : Bool) : (s.setFlags eq gt).pwm = s.pwm := rfl
@[simp] theorem State.setFlags_uart (eq gt : Bool) : (s.setFlags eq gt).uart = s.uart := rfl
@[simp] theorem State.setFlags_spi (eq gt : Bool) : (s.setFlags eq gt).spi = s.spi := rfl
@[simp] theorem State.setFlags_timer (eq gt : Bool) : (s.setFlags eq gt).timer = s.timer := rfl
@[simp] theorem State.setFlags_gpio (eq gt : Bool) : (s.setFlags eq gt).gpio = s.gpio := rfl
@[simp] theorem State.setFlags_wdt (eq gt : Bool) : (s.setFlags eq gt).wdt = s.wdt := rfl
@[simp] theorem State.setFlags_inputs (eq gt : Bool) : (s.setFlags eq gt).inputs = s.inputs := rfl
@[simp] theorem State.setFlags_freeCount (eq gt : Bool) : (s.setFlags eq gt).freeCount = s.freeCount := rfl
@[simp] theorem State.setFlags_epoch (eq gt : Bool) : (s.setFlags eq gt).epoch = s.epoch := rfl
@[simp] theorem State.setFlags_cfg (eq gt : Bool) : (s.setFlags eq gt).cfg = s.cfg := rfl

/-! ### `State.halt` -/

@[simp] theorem State.halt_regs : (s.halt).regs = s.regs := rfl
@[simp] theorem State.halt_pc : (s.halt).pc = s.pc := rfl
@[simp] theorem State.halt_flagEq : (s.halt).flagEq = s.flagEq := rfl
@[simp] theorem State.halt_flagGt : (s.halt).flagGt = s.flagGt := rfl
@[simp] theorem State.halt_halted : (s.halt).halted = true := rfl
@[simp] theorem State.halt_csr1 : (s.halt).csr1 = s.csr1 := rfl
@[simp] theorem State.halt_csr2 : (s.halt).csr2 = s.csr2 := rfl
@[simp] theorem State.halt_csr3 : (s.halt).csr3 = s.csr3 := rfl
@[simp] theorem State.halt_csr4 : (s.halt).csr4 = s.csr4 := rfl
@[simp] theorem State.halt_csr5 : (s.halt).csr5 = s.csr5 := rfl
@[simp] theorem State.halt_tmcon : (s.halt).tmcon = s.tmcon := rfl
@[simp] theorem State.halt_ram : (s.halt).ram = s.ram := rfl
@[simp] theorem State.halt_imem : (s.halt).imem = s.imem := rfl
@[simp] theorem State.halt_bus : (s.halt).bus = s.bus := rfl
@[simp] theorem State.halt_pwm : (s.halt).pwm = s.pwm := rfl
@[simp] theorem State.halt_uart : (s.halt).uart = s.uart := rfl
@[simp] theorem State.halt_spi : (s.halt).spi = s.spi := rfl
@[simp] theorem State.halt_timer : (s.halt).timer = s.timer := rfl
@[simp] theorem State.halt_gpio : (s.halt).gpio = s.gpio := rfl
@[simp] theorem State.halt_wdt : (s.halt).wdt = s.wdt := rfl
@[simp] theorem State.halt_inputs : (s.halt).inputs = s.inputs := rfl
@[simp] theorem State.halt_freeCount : (s.halt).freeCount = s.freeCount := rfl
@[simp] theorem State.halt_epoch : (s.halt).epoch = s.epoch := rfl
@[simp] theorem State.halt_cfg : (s.halt).cfg = s.cfg := rfl

/-! ### `State.drawn` -/

@[simp] theorem State.drawn_regs : (s.drawn).regs = s.regs := rfl
@[simp] theorem State.drawn_pc : (s.drawn).pc = s.pc := rfl
@[simp] theorem State.drawn_flagEq : (s.drawn).flagEq = s.flagEq := rfl
@[simp] theorem State.drawn_flagGt : (s.drawn).flagGt = s.flagGt := rfl
@[simp] theorem State.drawn_halted : (s.drawn).halted = s.halted := rfl
@[simp] theorem State.drawn_csr1 : (s.drawn).csr1 = s.csr1 := rfl
@[simp] theorem State.drawn_csr2 : (s.drawn).csr2 = s.csr2 := rfl
@[simp] theorem State.drawn_csr3 : (s.drawn).csr3 = s.csr3 := rfl
@[simp] theorem State.drawn_csr4 : (s.drawn).csr4 = s.csr4 := rfl
@[simp] theorem State.drawn_csr5 : (s.drawn).csr5 = s.csr5 := rfl
@[simp] theorem State.drawn_tmcon : (s.drawn).tmcon = s.tmcon := rfl
@[simp] theorem State.drawn_ram : (s.drawn).ram = s.ram := rfl
@[simp] theorem State.drawn_imem : (s.drawn).imem = s.imem := rfl
@[simp] theorem State.drawn_bus : (s.drawn).bus = s.bus := rfl
@[simp] theorem State.drawn_pwm : (s.drawn).pwm = s.pwm := rfl
@[simp] theorem State.drawn_uart : (s.drawn).uart = s.uart := rfl
@[simp] theorem State.drawn_spi : (s.drawn).spi = s.spi := rfl
@[simp] theorem State.drawn_timer : (s.drawn).timer = s.timer := rfl
@[simp] theorem State.drawn_gpio : (s.drawn).gpio = s.gpio := rfl
@[simp] theorem State.drawn_wdt : (s.drawn).wdt = s.wdt := rfl
@[simp] theorem State.drawn_inputs : (s.drawn).inputs = s.inputs := rfl
@[simp] theorem State.drawn_freeCount : (s.drawn).freeCount = s.freeCount + 1 := rfl
@[simp] theorem State.drawn_epoch : (s.drawn).epoch = s.epoch := rfl
@[simp] theorem State.drawn_cfg : (s.drawn).cfg = s.cfg := rfl

/-! ### `State.setBus` -/

@[simp] theorem State.setBus_regs (b : ApbState) : (s.setBus b).regs = s.regs := rfl
@[simp] theorem State.setBus_pc (b : ApbState) : (s.setBus b).pc = s.pc := rfl
@[simp] theorem State.setBus_flagEq (b : ApbState) : (s.setBus b).flagEq = s.flagEq := rfl
@[simp] theorem State.setBus_flagGt (b : ApbState) : (s.setBus b).flagGt = s.flagGt := rfl
@[simp] theorem State.setBus_halted (b : ApbState) : (s.setBus b).halted = s.halted := rfl
@[simp] theorem State.setBus_csr1 (b : ApbState) : (s.setBus b).csr1 = s.csr1 := rfl
@[simp] theorem State.setBus_csr2 (b : ApbState) : (s.setBus b).csr2 = s.csr2 := rfl
@[simp] theorem State.setBus_csr3 (b : ApbState) : (s.setBus b).csr3 = s.csr3 := rfl
@[simp] theorem State.setBus_csr4 (b : ApbState) : (s.setBus b).csr4 = s.csr4 := rfl
@[simp] theorem State.setBus_csr5 (b : ApbState) : (s.setBus b).csr5 = s.csr5 := rfl
@[simp] theorem State.setBus_tmcon (b : ApbState) : (s.setBus b).tmcon = s.tmcon := rfl
@[simp] theorem State.setBus_ram (b : ApbState) : (s.setBus b).ram = s.ram := rfl
@[simp] theorem State.setBus_imem (b : ApbState) : (s.setBus b).imem = s.imem := rfl
@[simp] theorem State.setBus_bus (b : ApbState) : (s.setBus b).bus = b := rfl
@[simp] theorem State.setBus_pwm (b : ApbState) : (s.setBus b).pwm = s.pwm := rfl
@[simp] theorem State.setBus_uart (b : ApbState) : (s.setBus b).uart = s.uart := rfl
@[simp] theorem State.setBus_spi (b : ApbState) : (s.setBus b).spi = s.spi := rfl
@[simp] theorem State.setBus_timer (b : ApbState) : (s.setBus b).timer = s.timer := rfl
@[simp] theorem State.setBus_gpio (b : ApbState) : (s.setBus b).gpio = s.gpio := rfl
@[simp] theorem State.setBus_wdt (b : ApbState) : (s.setBus b).wdt = s.wdt := rfl
@[simp] theorem State.setBus_inputs (b : ApbState) : (s.setBus b).inputs = s.inputs := rfl
@[simp] theorem State.setBus_freeCount (b : ApbState) : (s.setBus b).freeCount = s.freeCount := rfl
@[simp] theorem State.setBus_epoch (b : ApbState) : (s.setBus b).epoch = s.epoch := rfl
@[simp] theorem State.setBus_cfg (b : ApbState) : (s.setBus b).cfg = s.cfg := rfl

/-! ### `State.setRamCell` -/

@[simp] theorem State.setRamCell_regs (a v : Word) : (s.setRamCell a v).regs = s.regs := rfl
@[simp] theorem State.setRamCell_pc (a v : Word) : (s.setRamCell a v).pc = s.pc := rfl
@[simp] theorem State.setRamCell_flagEq (a v : Word) : (s.setRamCell a v).flagEq = s.flagEq := rfl
@[simp] theorem State.setRamCell_flagGt (a v : Word) : (s.setRamCell a v).flagGt = s.flagGt := rfl
@[simp] theorem State.setRamCell_halted (a v : Word) : (s.setRamCell a v).halted = s.halted := rfl
@[simp] theorem State.setRamCell_csr1 (a v : Word) : (s.setRamCell a v).csr1 = s.csr1 := rfl
@[simp] theorem State.setRamCell_csr2 (a v : Word) : (s.setRamCell a v).csr2 = s.csr2 := rfl
@[simp] theorem State.setRamCell_csr3 (a v : Word) : (s.setRamCell a v).csr3 = s.csr3 := rfl
@[simp] theorem State.setRamCell_csr4 (a v : Word) : (s.setRamCell a v).csr4 = s.csr4 := rfl
@[simp] theorem State.setRamCell_csr5 (a v : Word) : (s.setRamCell a v).csr5 = s.csr5 := rfl
@[simp] theorem State.setRamCell_tmcon (a v : Word) : (s.setRamCell a v).tmcon = s.tmcon := rfl
@[simp] theorem State.setRamCell_ram (a v : Word) : (s.setRamCell a v).ram = s.ram.writeWord a.toNat v := rfl
@[simp] theorem State.setRamCell_imem (a v : Word) : (s.setRamCell a v).imem = s.imem := rfl
@[simp] theorem State.setRamCell_bus (a v : Word) : (s.setRamCell a v).bus = s.bus := rfl
@[simp] theorem State.setRamCell_pwm (a v : Word) : (s.setRamCell a v).pwm = s.pwm := rfl
@[simp] theorem State.setRamCell_uart (a v : Word) : (s.setRamCell a v).uart = s.uart := rfl
@[simp] theorem State.setRamCell_spi (a v : Word) : (s.setRamCell a v).spi = s.spi := rfl
@[simp] theorem State.setRamCell_timer (a v : Word) : (s.setRamCell a v).timer = s.timer := rfl
@[simp] theorem State.setRamCell_gpio (a v : Word) : (s.setRamCell a v).gpio = s.gpio := rfl
@[simp] theorem State.setRamCell_wdt (a v : Word) : (s.setRamCell a v).wdt = s.wdt := rfl
@[simp] theorem State.setRamCell_inputs (a v : Word) : (s.setRamCell a v).inputs = s.inputs := rfl
@[simp] theorem State.setRamCell_freeCount (a v : Word) : (s.setRamCell a v).freeCount = s.freeCount := rfl
@[simp] theorem State.setRamCell_epoch (a v : Word) : (s.setRamCell a v).epoch = s.epoch := rfl
@[simp] theorem State.setRamCell_cfg (a v : Word) : (s.setRamCell a v).cfg = s.cfg := rfl

/-! ### `State.raiseFlag` -/

@[simp] theorem State.raiseFlag_regs (i : Source) : (s.raiseFlag i).regs = s.regs := rfl
@[simp] theorem State.raiseFlag_pc (i : Source) : (s.raiseFlag i).pc = s.pc := rfl
@[simp] theorem State.raiseFlag_flagEq (i : Source) : (s.raiseFlag i).flagEq = s.flagEq := rfl
@[simp] theorem State.raiseFlag_flagGt (i : Source) : (s.raiseFlag i).flagGt = s.flagGt := rfl
@[simp] theorem State.raiseFlag_halted (i : Source) : (s.raiseFlag i).halted = s.halted := rfl
@[simp] theorem State.raiseFlag_csr1 (i : Source) : (s.raiseFlag i).csr1 = s.csr1 := rfl
@[simp] theorem State.raiseFlag_csr2 (i : Source) : (s.raiseFlag i).csr2 = s.csr2 := rfl
@[simp] theorem State.raiseFlag_csr3 (i : Source) : (s.raiseFlag i).csr3 = s.csr3 := rfl
@[simp] theorem State.raiseFlag_csr4 (i : Source) : (s.raiseFlag i).csr4 = s.csr4 := rfl
@[simp] theorem State.raiseFlag_csr5 (i : Source) : (s.raiseFlag i).csr5 = setBit s.csr5 (2 * sourceIndex i) true := rfl
@[simp] theorem State.raiseFlag_tmcon (i : Source) : (s.raiseFlag i).tmcon = s.tmcon := rfl
@[simp] theorem State.raiseFlag_ram (i : Source) : (s.raiseFlag i).ram = s.ram := rfl
@[simp] theorem State.raiseFlag_imem (i : Source) : (s.raiseFlag i).imem = s.imem := rfl
@[simp] theorem State.raiseFlag_bus (i : Source) : (s.raiseFlag i).bus = s.bus := rfl
@[simp] theorem State.raiseFlag_pwm (i : Source) : (s.raiseFlag i).pwm = s.pwm := rfl
@[simp] theorem State.raiseFlag_uart (i : Source) : (s.raiseFlag i).uart = s.uart := rfl
@[simp] theorem State.raiseFlag_spi (i : Source) : (s.raiseFlag i).spi = s.spi := rfl
@[simp] theorem State.raiseFlag_timer (i : Source) : (s.raiseFlag i).timer = s.timer := rfl
@[simp] theorem State.raiseFlag_gpio (i : Source) : (s.raiseFlag i).gpio = s.gpio := rfl
@[simp] theorem State.raiseFlag_wdt (i : Source) : (s.raiseFlag i).wdt = s.wdt := rfl
@[simp] theorem State.raiseFlag_inputs (i : Source) : (s.raiseFlag i).inputs = s.inputs := rfl
@[simp] theorem State.raiseFlag_freeCount (i : Source) : (s.raiseFlag i).freeCount = s.freeCount := rfl
@[simp] theorem State.raiseFlag_epoch (i : Source) : (s.raiseFlag i).epoch = s.epoch := rfl
@[simp] theorem State.raiseFlag_cfg (i : Source) : (s.raiseFlag i).cfg = s.cfg := rfl

/-! ### `State.dropInput` -/

@[simp] theorem State.dropInput_regs : (s.dropInput).regs = s.regs := rfl
@[simp] theorem State.dropInput_pc : (s.dropInput).pc = s.pc := rfl
@[simp] theorem State.dropInput_flagEq : (s.dropInput).flagEq = s.flagEq := rfl
@[simp] theorem State.dropInput_flagGt : (s.dropInput).flagGt = s.flagGt := rfl
@[simp] theorem State.dropInput_halted : (s.dropInput).halted = s.halted := rfl
@[simp] theorem State.dropInput_csr1 : (s.dropInput).csr1 = s.csr1 := rfl
@[simp] theorem State.dropInput_csr2 : (s.dropInput).csr2 = s.csr2 := rfl
@[simp] theorem State.dropInput_csr3 : (s.dropInput).csr3 = s.csr3 := rfl
@[simp] theorem State.dropInput_csr4 : (s.dropInput).csr4 = s.csr4 := rfl
@[simp] theorem State.dropInput_csr5 : (s.dropInput).csr5 = s.csr5 := rfl
@[simp] theorem State.dropInput_tmcon : (s.dropInput).tmcon = s.tmcon := rfl
@[simp] theorem State.dropInput_ram : (s.dropInput).ram = s.ram := rfl
@[simp] theorem State.dropInput_imem : (s.dropInput).imem = s.imem := rfl
@[simp] theorem State.dropInput_bus : (s.dropInput).bus = s.bus := rfl
@[simp] theorem State.dropInput_pwm : (s.dropInput).pwm = s.pwm := rfl
@[simp] theorem State.dropInput_uart : (s.dropInput).uart = s.uart := rfl
@[simp] theorem State.dropInput_spi : (s.dropInput).spi = s.spi := rfl
@[simp] theorem State.dropInput_timer : (s.dropInput).timer = s.timer := rfl
@[simp] theorem State.dropInput_gpio : (s.dropInput).gpio = s.gpio := rfl
@[simp] theorem State.dropInput_wdt : (s.dropInput).wdt = s.wdt := rfl
@[simp] theorem State.dropInput_inputs : (s.dropInput).inputs = s.inputs.tail := rfl
@[simp] theorem State.dropInput_freeCount : (s.dropInput).freeCount = s.freeCount := rfl
@[simp] theorem State.dropInput_epoch : (s.dropInput).epoch = s.epoch := rfl
@[simp] theorem State.dropInput_cfg : (s.dropInput).cfg = s.cfg := rfl

/-! ### `State.drivePins` -/

@[simp] theorem State.drivePins_regs (l o : BitVec 16) : (s.drivePins l o).regs = s.regs := rfl
@[simp] theorem State.drivePins_pc (l o : BitVec 16) : (s.drivePins l o).pc = s.pc := rfl
@[simp] theorem State.drivePins_flagEq (l o : BitVec 16) : (s.drivePins l o).flagEq = s.flagEq := rfl
@[simp] theorem State.drivePins_flagGt (l o : BitVec 16) : (s.drivePins l o).flagGt = s.flagGt := rfl
@[simp] theorem State.drivePins_halted (l o : BitVec 16) : (s.drivePins l o).halted = s.halted := rfl
@[simp] theorem State.drivePins_csr1 (l o : BitVec 16) : (s.drivePins l o).csr1 = s.csr1 := rfl
@[simp] theorem State.drivePins_csr2 (l o : BitVec 16) : (s.drivePins l o).csr2 = s.csr2 := rfl
@[simp] theorem State.drivePins_csr3 (l o : BitVec 16) : (s.drivePins l o).csr3 = s.csr3 := rfl
@[simp] theorem State.drivePins_csr4 (l o : BitVec 16) : (s.drivePins l o).csr4 = s.csr4 := rfl
@[simp] theorem State.drivePins_csr5 (l o : BitVec 16) : (s.drivePins l o).csr5 = s.csr5 := rfl
@[simp] theorem State.drivePins_tmcon (l o : BitVec 16) : (s.drivePins l o).tmcon = s.tmcon := rfl
@[simp] theorem State.drivePins_ram (l o : BitVec 16) : (s.drivePins l o).ram = s.ram := rfl
@[simp] theorem State.drivePins_imem (l o : BitVec 16) : (s.drivePins l o).imem = s.imem := rfl
@[simp] theorem State.drivePins_bus (l o : BitVec 16) : (s.drivePins l o).bus = s.bus := rfl
@[simp] theorem State.drivePins_pwm (l o : BitVec 16) : (s.drivePins l o).pwm = s.pwm := rfl
@[simp] theorem State.drivePins_uart (l o : BitVec 16) : (s.drivePins l o).uart = s.uart := rfl
@[simp] theorem State.drivePins_spi (l o : BitVec 16) : (s.drivePins l o).spi = s.spi := rfl
@[simp] theorem State.drivePins_timer (l o : BitVec 16) : (s.drivePins l o).timer = s.timer := rfl
@[simp] theorem State.drivePins_gpio (l o : BitVec 16) : (s.drivePins l o).gpio = { s.gpio with ext := l, overdrive := o } := rfl
@[simp] theorem State.drivePins_wdt (l o : BitVec 16) : (s.drivePins l o).wdt = s.wdt := rfl
@[simp] theorem State.drivePins_inputs (l o : BitVec 16) : (s.drivePins l o).inputs = s.inputs := rfl
@[simp] theorem State.drivePins_freeCount (l o : BitVec 16) : (s.drivePins l o).freeCount = s.freeCount := rfl
@[simp] theorem State.drivePins_epoch (l o : BitVec 16) : (s.drivePins l o).epoch = s.epoch := rfl
@[simp] theorem State.drivePins_cfg (l o : BitVec 16) : (s.drivePins l o).cfg = s.cfg := rfl

/-! ### `State.storePwm` -/

@[simp] theorem State.storePwm_regs (v : Word) : (s.storePwm v).regs = s.regs := rfl
@[simp] theorem State.storePwm_pc (v : Word) : (s.storePwm v).pc = s.pc := rfl
@[simp] theorem State.storePwm_flagEq (v : Word) : (s.storePwm v).flagEq = s.flagEq := rfl
@[simp] theorem State.storePwm_flagGt (v : Word) : (s.storePwm v).flagGt = s.flagGt := rfl
@[simp] theorem State.storePwm_halted (v : Word) : (s.storePwm v).halted = s.halted := rfl
@[simp] theorem State.storePwm_csr1 (v : Word) : (s.storePwm v).csr1 = s.csr1 := rfl
@[simp] theorem State.storePwm_csr2 (v : Word) : (s.storePwm v).csr2 = s.csr2 := rfl
@[simp] theorem State.storePwm_csr3 (v : Word) : (s.storePwm v).csr3 = s.csr3 := rfl
@[simp] theorem State.storePwm_csr4 (v : Word) : (s.storePwm v).csr4 = s.csr4 := rfl
@[simp] theorem State.storePwm_csr5 (v : Word) : (s.storePwm v).csr5 = s.csr5 := rfl
@[simp] theorem State.storePwm_tmcon (v : Word) : (s.storePwm v).tmcon = s.tmcon := rfl
@[simp] theorem State.storePwm_ram (v : Word) : (s.storePwm v).ram = s.ram := rfl
@[simp] theorem State.storePwm_imem (v : Word) : (s.storePwm v).imem = s.imem := rfl
@[simp] theorem State.storePwm_bus (v : Word) : (s.storePwm v).bus = s.bus := rfl
@[simp] theorem State.storePwm_pwm (v : Word) : (s.storePwm v).pwm = { s.pwm with
    reg := v, pr := v.extractLsb' 7 12, dutyMaster := v.extractLsb' 19 12
    tmr := if v.getLsbD 1 then s.pwm.tmr else 0#12
    out := if v.getLsbD 0 then s.pwm.out else s.free.getLsbD 0 } := rfl
@[simp] theorem State.storePwm_uart (v : Word) : (s.storePwm v).uart = s.uart := rfl
@[simp] theorem State.storePwm_spi (v : Word) : (s.storePwm v).spi = s.spi := rfl
@[simp] theorem State.storePwm_timer (v : Word) : (s.storePwm v).timer = s.timer := rfl
@[simp] theorem State.storePwm_gpio (v : Word) : (s.storePwm v).gpio = s.gpio := rfl
@[simp] theorem State.storePwm_wdt (v : Word) : (s.storePwm v).wdt = s.wdt := rfl
@[simp] theorem State.storePwm_inputs (v : Word) : (s.storePwm v).inputs = s.inputs := rfl
@[simp] theorem State.storePwm_freeCount (v : Word) : (s.storePwm v).freeCount =
    if v.getLsbD 0 then s.freeCount else s.freeCount + 1 := rfl
@[simp] theorem State.storePwm_epoch (v : Word) : (s.storePwm v).epoch = s.epoch := rfl
@[simp] theorem State.storePwm_cfg (v : Word) : (s.storePwm v).cfg = s.cfg := rfl

/-! ### `State.storeTris` -/

@[simp] theorem State.storeTris_regs (v : Word) : (s.storeTris v).regs = s.regs := rfl
@[simp] theorem State.storeTris_pc (v : Word) : (s.storeTris v).pc = s.pc := rfl
@[simp] theorem State.storeTris_flagEq (v : Word) : (s.storeTris v).flagEq = s.flagEq := rfl
@[simp] theorem State.storeTris_flagGt (v : Word) : (s.storeTris v).flagGt = s.flagGt := rfl
@[simp] theorem State.storeTris_halted (v : Word) : (s.storeTris v).halted = s.halted := rfl
@[simp] theorem State.storeTris_csr1 (v : Word) : (s.storeTris v).csr1 = s.csr1 := rfl
@[simp] theorem State.storeTris_csr2 (v : Word) : (s.storeTris v).csr2 = s.csr2 := rfl
@[simp] theorem State.storeTris_csr3 (v : Word) : (s.storeTris v).csr3 = s.csr3 := rfl
@[simp] theorem State.storeTris_csr4 (v : Word) : (s.storeTris v).csr4 = s.csr4 := rfl
@[simp] theorem State.storeTris_csr5 (v : Word) : (s.storeTris v).csr5 = s.csr5 := rfl
@[simp] theorem State.storeTris_tmcon (v : Word) : (s.storeTris v).tmcon = s.tmcon := rfl
@[simp] theorem State.storeTris_ram (v : Word) : (s.storeTris v).ram = s.ram := rfl
@[simp] theorem State.storeTris_imem (v : Word) : (s.storeTris v).imem = s.imem := rfl
@[simp] theorem State.storeTris_bus (v : Word) : (s.storeTris v).bus = s.bus := rfl
@[simp] theorem State.storeTris_pwm (v : Word) : (s.storeTris v).pwm = s.pwm := rfl
@[simp] theorem State.storeTris_uart (v : Word) : (s.storeTris v).uart = s.uart := rfl
@[simp] theorem State.storeTris_spi (v : Word) : (s.storeTris v).spi = s.spi := rfl
@[simp] theorem State.storeTris_timer (v : Word) : (s.storeTris v).timer = s.timer := rfl
@[simp] theorem State.storeTris_gpio (v : Word) : (s.storeTris v).gpio = { s.gpio with tris := v.extractLsb' 0 16 } := rfl
@[simp] theorem State.storeTris_wdt (v : Word) : (s.storeTris v).wdt = s.wdt := rfl
@[simp] theorem State.storeTris_inputs (v : Word) : (s.storeTris v).inputs = s.inputs := rfl
@[simp] theorem State.storeTris_freeCount (v : Word) : (s.storeTris v).freeCount = s.freeCount := rfl
@[simp] theorem State.storeTris_epoch (v : Word) : (s.storeTris v).epoch = s.epoch := rfl
@[simp] theorem State.storeTris_cfg (v : Word) : (s.storeTris v).cfg = s.cfg := rfl

/-! ### `State.storeTimer` -/

@[simp] theorem State.storeTimer_regs (v : Word) : (s.storeTimer v).regs = s.regs := rfl
@[simp] theorem State.storeTimer_pc (v : Word) : (s.storeTimer v).pc = s.pc := rfl
@[simp] theorem State.storeTimer_flagEq (v : Word) : (s.storeTimer v).flagEq = s.flagEq := rfl
@[simp] theorem State.storeTimer_flagGt (v : Word) : (s.storeTimer v).flagGt = s.flagGt := rfl
@[simp] theorem State.storeTimer_halted (v : Word) : (s.storeTimer v).halted = s.halted := rfl
@[simp] theorem State.storeTimer_csr1 (v : Word) : (s.storeTimer v).csr1 = s.csr1 := rfl
@[simp] theorem State.storeTimer_csr2 (v : Word) : (s.storeTimer v).csr2 = s.csr2 := rfl
@[simp] theorem State.storeTimer_csr3 (v : Word) : (s.storeTimer v).csr3 = s.csr3 := rfl
@[simp] theorem State.storeTimer_csr4 (v : Word) : (s.storeTimer v).csr4 = s.csr4 := rfl
@[simp] theorem State.storeTimer_csr5 (v : Word) : (s.storeTimer v).csr5 = s.csr5 := rfl
@[simp] theorem State.storeTimer_tmcon (v : Word) : (s.storeTimer v).tmcon = s.tmcon := rfl
@[simp] theorem State.storeTimer_ram (v : Word) : (s.storeTimer v).ram = s.ram := rfl
@[simp] theorem State.storeTimer_imem (v : Word) : (s.storeTimer v).imem = s.imem := rfl
@[simp] theorem State.storeTimer_bus (v : Word) : (s.storeTimer v).bus = s.bus := rfl
@[simp] theorem State.storeTimer_pwm (v : Word) : (s.storeTimer v).pwm = s.pwm := rfl
@[simp] theorem State.storeTimer_uart (v : Word) : (s.storeTimer v).uart = s.uart := rfl
@[simp] theorem State.storeTimer_spi (v : Word) : (s.storeTimer v).spi = s.spi := rfl
@[simp] theorem State.storeTimer_timer (v : Word) : (s.storeTimer v).timer = { s.timer with count := v.extractLsb' 0 16, intFlag := false } := rfl
@[simp] theorem State.storeTimer_gpio (v : Word) : (s.storeTimer v).gpio = s.gpio := rfl
@[simp] theorem State.storeTimer_wdt (v : Word) : (s.storeTimer v).wdt = s.wdt := rfl
@[simp] theorem State.storeTimer_inputs (v : Word) : (s.storeTimer v).inputs = s.inputs := rfl
@[simp] theorem State.storeTimer_freeCount (v : Word) : (s.storeTimer v).freeCount = s.freeCount := rfl
@[simp] theorem State.storeTimer_epoch (v : Word) : (s.storeTimer v).epoch = s.epoch := rfl
@[simp] theorem State.storeTimer_cfg (v : Word) : (s.storeTimer v).cfg = s.cfg := rfl

/-! ### `State.storeSpi` -/

@[simp] theorem State.storeSpi_regs (v : Word) : (s.storeSpi v).regs = s.regs := rfl
@[simp] theorem State.storeSpi_pc (v : Word) : (s.storeSpi v).pc = s.pc := rfl
@[simp] theorem State.storeSpi_flagEq (v : Word) : (s.storeSpi v).flagEq = s.flagEq := rfl
@[simp] theorem State.storeSpi_flagGt (v : Word) : (s.storeSpi v).flagGt = s.flagGt := rfl
@[simp] theorem State.storeSpi_halted (v : Word) : (s.storeSpi v).halted = s.halted := rfl
@[simp] theorem State.storeSpi_csr1 (v : Word) : (s.storeSpi v).csr1 = s.csr1 := rfl
@[simp] theorem State.storeSpi_csr2 (v : Word) : (s.storeSpi v).csr2 = s.csr2 := rfl
@[simp] theorem State.storeSpi_csr3 (v : Word) : (s.storeSpi v).csr3 = s.csr3 := rfl
@[simp] theorem State.storeSpi_csr4 (v : Word) : (s.storeSpi v).csr4 = s.csr4 := rfl
@[simp] theorem State.storeSpi_csr5 (v : Word) : (s.storeSpi v).csr5 = s.csr5 := rfl
@[simp] theorem State.storeSpi_tmcon (v : Word) : (s.storeSpi v).tmcon = s.tmcon := rfl
@[simp] theorem State.storeSpi_ram (v : Word) : (s.storeSpi v).ram = s.ram := rfl
@[simp] theorem State.storeSpi_imem (v : Word) : (s.storeSpi v).imem = s.imem := rfl
@[simp] theorem State.storeSpi_bus (v : Word) : (s.storeSpi v).bus = s.bus := rfl
@[simp] theorem State.storeSpi_pwm (v : Word) : (s.storeSpi v).pwm = s.pwm := rfl
@[simp] theorem State.storeSpi_uart (v : Word) : (s.storeSpi v).uart = s.uart := rfl
@[simp] theorem State.storeSpi_spi (v : Word) : (s.storeSpi v).spi = { s.spi with buffer := v, startCommand := true } := rfl
@[simp] theorem State.storeSpi_timer (v : Word) : (s.storeSpi v).timer = s.timer := rfl
@[simp] theorem State.storeSpi_gpio (v : Word) : (s.storeSpi v).gpio = s.gpio := rfl
@[simp] theorem State.storeSpi_wdt (v : Word) : (s.storeSpi v).wdt = s.wdt := rfl
@[simp] theorem State.storeSpi_inputs (v : Word) : (s.storeSpi v).inputs = s.inputs := rfl
@[simp] theorem State.storeSpi_freeCount (v : Word) : (s.storeSpi v).freeCount = s.freeCount := rfl
@[simp] theorem State.storeSpi_epoch (v : Word) : (s.storeSpi v).epoch = s.epoch := rfl
@[simp] theorem State.storeSpi_cfg (v : Word) : (s.storeSpi v).cfg = s.cfg := rfl

/-! ### `State.spiToggle` -/

@[simp] theorem State.spiToggle_regs : s.spiToggle.regs = s.regs := rfl
@[simp] theorem State.spiToggle_pc : s.spiToggle.pc = s.pc := rfl
@[simp] theorem State.spiToggle_flagEq : s.spiToggle.flagEq = s.flagEq := rfl
@[simp] theorem State.spiToggle_flagGt : s.spiToggle.flagGt = s.flagGt := rfl
@[simp] theorem State.spiToggle_halted : s.spiToggle.halted = s.halted := rfl
@[simp] theorem State.spiToggle_csr1 : s.spiToggle.csr1 = s.csr1 := rfl
@[simp] theorem State.spiToggle_csr2 : s.spiToggle.csr2 = s.csr2 := rfl
@[simp] theorem State.spiToggle_csr3 : s.spiToggle.csr3 = s.csr3 := rfl
@[simp] theorem State.spiToggle_csr4 : s.spiToggle.csr4 = s.csr4 := rfl
@[simp] theorem State.spiToggle_csr5 : s.spiToggle.csr5 = s.csr5 := rfl
@[simp] theorem State.spiToggle_tmcon : s.spiToggle.tmcon = s.tmcon := rfl
@[simp] theorem State.spiToggle_ram : s.spiToggle.ram = s.ram := rfl
@[simp] theorem State.spiToggle_imem : s.spiToggle.imem = s.imem := rfl
@[simp] theorem State.spiToggle_bus : s.spiToggle.bus = s.bus := rfl
@[simp] theorem State.spiToggle_pwm : s.spiToggle.pwm = s.pwm := rfl
@[simp] theorem State.spiToggle_uart : s.spiToggle.uart = s.uart := rfl
@[simp] theorem State.spiToggle_spi : s.spiToggle.spi = { s.spi with phase := !s.spi.phase, clock := !s.spi.clock } := rfl
@[simp] theorem State.spiToggle_timer : s.spiToggle.timer = s.timer := rfl
@[simp] theorem State.spiToggle_gpio : s.spiToggle.gpio = s.gpio := rfl
@[simp] theorem State.spiToggle_wdt : s.spiToggle.wdt = s.wdt := rfl
@[simp] theorem State.spiToggle_inputs : s.spiToggle.inputs = s.inputs := rfl
@[simp] theorem State.spiToggle_freeCount : s.spiToggle.freeCount = s.freeCount := rfl
@[simp] theorem State.spiToggle_epoch : s.spiToggle.epoch = s.epoch := rfl
@[simp] theorem State.spiToggle_cfg : s.spiToggle.cfg = s.cfg := rfl

/-! ### `State.notePc` -/

@[simp] theorem State.notePc_regs : s.notePc.regs = s.regs := rfl
@[simp] theorem State.notePc_pc : s.notePc.pc = s.pc := rfl
@[simp] theorem State.notePc_flagEq : s.notePc.flagEq = s.flagEq := rfl
@[simp] theorem State.notePc_flagGt : s.notePc.flagGt = s.flagGt := rfl
@[simp] theorem State.notePc_halted : s.notePc.halted = s.halted := rfl
@[simp] theorem State.notePc_csr1 : s.notePc.csr1 = s.csr1 := rfl
@[simp] theorem State.notePc_csr2 : s.notePc.csr2 = s.csr2 := rfl
@[simp] theorem State.notePc_csr3 : s.notePc.csr3 = s.csr3 := rfl
@[simp] theorem State.notePc_csr4 : s.notePc.csr4 = s.csr4 := rfl
@[simp] theorem State.notePc_csr5 : s.notePc.csr5 = s.csr5 := rfl
@[simp] theorem State.notePc_tmcon : s.notePc.tmcon = s.tmcon := rfl
@[simp] theorem State.notePc_ram : s.notePc.ram = s.ram := rfl
@[simp] theorem State.notePc_imem : s.notePc.imem = s.imem := rfl
@[simp] theorem State.notePc_bus : s.notePc.bus = s.bus := rfl
@[simp] theorem State.notePc_pwm : s.notePc.pwm = s.pwm := rfl
@[simp] theorem State.notePc_uart : s.notePc.uart = s.uart := rfl
@[simp] theorem State.notePc_spi : s.notePc.spi = s.spi := rfl
@[simp] theorem State.notePc_timer : s.notePc.timer = s.timer := rfl
@[simp] theorem State.notePc_gpio : s.notePc.gpio = s.gpio := rfl
@[simp] theorem State.notePc_wdt : s.notePc.wdt = { s.wdt with lastPc := s.pc } := rfl
@[simp] theorem State.notePc_inputs : s.notePc.inputs = s.inputs := rfl
@[simp] theorem State.notePc_freeCount : s.notePc.freeCount = s.freeCount := rfl
@[simp] theorem State.notePc_epoch : s.notePc.epoch = s.epoch := rfl
@[simp] theorem State.notePc_cfg : s.notePc.cfg = s.cfg := rfl

/-! ### Reading registers after an update -/

@[simp] theorem State.setReg_reg_self (r : Reg) (v : Word) : (s.setReg r v).reg r = v := by
  simp [State.reg]

theorem State.setReg_reg_of_ne {r r' : Reg} (v : Word) (h : r' ≠ r) :
    (s.setReg r v).reg r' = s.reg r' := by
  have : r.toNat ≠ r'.toNat := fun e => h (BitVec.eq_of_toNat_eq e.symm)
  simp [State.reg, this]

theorem State.setReg_reg (r r' : Reg) (v : Word) :
    (s.setReg r v).reg r' = if r' = r then v else s.reg r' := by
  split
  · next h => subst h; simp
  · next h => exact s.setReg_reg_of_ne v h

/-- A register's value depends on the register file alone. -/
theorem State.reg_congr {s t : State} (h : t.regs = s.regs) (r : Reg) : t.reg r = s.reg r := by
  simp [State.reg, h]

@[simp] theorem State.jump_reg (t : Word) (r : Reg) : (s.jump t).reg r = s.reg r := rfl
@[simp] theorem State.advance_reg (r : Reg) : s.advance.reg r = s.reg r := rfl
@[simp] theorem State.setFlags_reg (e g : Bool) (r : Reg) : (s.setFlags e g).reg r = s.reg r := rfl
@[simp] theorem State.halt_reg (r : Reg) : s.halt.reg r = s.reg r := rfl
@[simp] theorem State.drawn_reg (r : Reg) : s.drawn.reg r = s.reg r := rfl
@[simp] theorem State.setBus_reg (b : ApbState) (r : Reg) : (s.setBus b).reg r = s.reg r := rfl
@[simp] theorem State.setRamCell_reg (a v : Word) (r : Reg) : (s.setRamCell a v).reg r = s.reg r := rfl
@[simp] theorem State.raiseFlag_reg (i : Source) (r : Reg) : (s.raiseFlag i).reg r = s.reg r := rfl

/-! ### Derived reads after an update -/

@[simp] theorem State.setReg_nextPc (r : Reg) (v : Word) : (s.setReg r v).nextPc = s.nextPc := rfl
@[simp] theorem State.setFlags_nextPc (e g : Bool) : (s.setFlags e g).nextPc = s.nextPc := rfl
@[simp] theorem State.drawn_nextPc : s.drawn.nextPc = s.nextPc := rfl
@[simp] theorem State.setBus_nextPc (b : ApbState) : (s.setBus b).nextPc = s.nextPc := rfl
@[simp] theorem State.setRamCell_nextPc (a v : Word) : (s.setRamCell a v).nextPc = s.nextPc := rfl

/-! ### A CSR write, one CSR at a time -/

theorem State.setCsrStored_eq_i2c (w : Word) : s.setCsrStored .i2c w = { s with csr1 := w.setWidth 9 } := rfl
theorem State.setCsrStored_eq_spi (w : Word) : s.setCsrStored .spi w = { s with csr2 := w.setWidth 11 } := rfl
theorem State.setCsrStored_eq_uart (w : Word) : s.setCsrStored .uart w = { s with csr3 := w.setWidth 8 } := rfl
theorem State.setCsrStored_eq_watchdog (w : Word) :
    s.setCsrStored .watchdog w = { s with csr4 := w.setWidth 5 } := rfl
theorem State.setCsrStored_eq_intcon (w : Word) :
    s.setCsrStored .intcon w = { s with csr5 := w.setWidth 22 } := rfl
theorem State.setCsrStored_eq_tmcon (w : Word) :
    s.setCsrStored .tmcon w = { s with tmcon := w.setWidth 7 } := rfl

@[simp] theorem State.setCsrStored_regs (c : Csr) (w : Word) : (s.setCsrStored c w).regs = s.regs := by cases c <;> rfl
@[simp] theorem State.setCsrStored_pc (c : Csr) (w : Word) : (s.setCsrStored c w).pc = s.pc := by cases c <;> rfl
@[simp] theorem State.setCsrStored_flagEq (c : Csr) (w : Word) : (s.setCsrStored c w).flagEq = s.flagEq := by cases c <;> rfl
@[simp] theorem State.setCsrStored_flagGt (c : Csr) (w : Word) : (s.setCsrStored c w).flagGt = s.flagGt := by cases c <;> rfl
@[simp] theorem State.setCsrStored_halted (c : Csr) (w : Word) : (s.setCsrStored c w).halted = s.halted := by cases c <;> rfl
@[simp] theorem State.setCsrStored_ram (c : Csr) (w : Word) : (s.setCsrStored c w).ram = s.ram := by cases c <;> rfl
@[simp] theorem State.setCsrStored_imem (c : Csr) (w : Word) : (s.setCsrStored c w).imem = s.imem := by cases c <;> rfl
@[simp] theorem State.setCsrStored_bus (c : Csr) (w : Word) : (s.setCsrStored c w).bus = s.bus := by cases c <;> rfl
@[simp] theorem State.setCsrStored_pwm (c : Csr) (w : Word) : (s.setCsrStored c w).pwm = s.pwm := by cases c <;> rfl
@[simp] theorem State.setCsrStored_uart (c : Csr) (w : Word) : (s.setCsrStored c w).uart = s.uart := by cases c <;> rfl
@[simp] theorem State.setCsrStored_spi (c : Csr) (w : Word) : (s.setCsrStored c w).spi = s.spi := by cases c <;> rfl
@[simp] theorem State.setCsrStored_timer (c : Csr) (w : Word) : (s.setCsrStored c w).timer = s.timer := by cases c <;> rfl
@[simp] theorem State.setCsrStored_gpio (c : Csr) (w : Word) : (s.setCsrStored c w).gpio = s.gpio := by cases c <;> rfl
@[simp] theorem State.setCsrStored_wdt (c : Csr) (w : Word) : (s.setCsrStored c w).wdt = s.wdt := by cases c <;> rfl
@[simp] theorem State.setCsrStored_inputs (c : Csr) (w : Word) : (s.setCsrStored c w).inputs = s.inputs := by cases c <;> rfl
@[simp] theorem State.setCsrStored_freeCount (c : Csr) (w : Word) : (s.setCsrStored c w).freeCount = s.freeCount := by cases c <;> rfl
@[simp] theorem State.setCsrStored_epoch (c : Csr) (w : Word) : (s.setCsrStored c w).epoch = s.epoch := by cases c <;> rfl
@[simp] theorem State.setCsrStored_cfg (c : Csr) (w : Word) : (s.setCsrStored c w).cfg = s.cfg := by cases c <;> rfl

end Sys2Proof.Machine
end

