-- ==== Sys2Proof/Laws/Memory.lean ====
section
/-!
SUPPORT. The laws of memory: reading after a write, the canonical form, and the cells of data memory
(spec/20_memory.md R42, R44, R45).
-/

namespace Sys2Proof.Machine

@[simp] theorem Memory.read_nil (a : Nat) : Memory.read [] a = none := rfl

theorem Memory.read_cons (k : Nat) (b : Byte) (m : Memory) (a : Nat) :
    Memory.read ((k, b) :: m) a = if k = a then some b else Memory.read m a := rfl

theorem Memory.read_write_same (m : Memory) (a : Nat) (v : Byte) : (Memory.write m a v).read a = some v := by
  induction m with
  | nil => simp [Memory.write, Memory.read]
  | cons c m ih =>
    obtain ⟨k, b⟩ := c
    simp only [Memory.write]
    split
    · simp [Memory.read]
    · split
      · simp [Memory.read]
      · next h => simp [Memory.read, ih, Ne.symm h]

theorem Memory.read_write_other (m : Memory) {a a' : Nat} (v : Byte) (h : a' ≠ a) :
    (Memory.write m a v).read a' = m.read a' := by
  induction m with
  | nil => simp [Memory.write, Memory.read, Ne.symm h]
  | cons c m ih =>
    obtain ⟨k, b⟩ := c
    simp only [Memory.write]
    split
    · simp [Memory.read, Ne.symm h]
    · split
      · next hk => subst hk; simp [Memory.read, Ne.symm h]
      · simp [Memory.read, ih]

theorem Memory.read_write (m : Memory) (a a' : Nat) (v : Byte) :
    (Memory.write m a v).read a' = if a' = a then some v else m.read a' := by
  split
  · next h => subst h; exact Memory.read_write_same m _ v
  · next h => exact Memory.read_write_other m v h

/-- Every key of a memory after a write is the written one or an old one. -/
theorem Memory.mem_write {m : Memory} {a : Nat} {v : Byte} {c : Host.Cell} (h : c ∈ Memory.write m a v) :
    c.1 = a ∨ c ∈ m := by
  induction m with
  | nil => simp [Memory.write] at h; simp [h]
  | cons d m ih =>
    obtain ⟨k, b⟩ := d
    simp only [Memory.write] at h
    split at h
    · rcases List.mem_cons.1 h with rfl | h
      · exact .inl rfl
      · exact .inr h
    · split at h
      · rcases List.mem_cons.1 h with rfl | h
        · exact .inl rfl
        · exact .inr (List.mem_cons_of_mem _ h)
      · rcases List.mem_cons.1 h with rfl | h
        · exact .inr (List.mem_cons_self ..)
        · exact (ih h).imp_right (List.mem_cons_of_mem _)

/-- A write keeps the canonical form. -/
theorem Memory.write_wf {m : Memory} (h : Memory.wf m) (a : Nat) (v : Byte) : Memory.wf (Memory.write m a v) := by
  induction m with
  | nil => simp [Memory.write, Memory.wf]
  | cons c m ih =>
    obtain ⟨k, b⟩ := c
    obtain ⟨hk, hm⟩ := List.pairwise_cons.1 h
    simp only [Memory.write]
    split
    · next hlt =>
      refine List.pairwise_cons.2 ⟨fun d hd => ?_, h⟩
      rcases List.mem_cons.1 hd with rfl | hd
      · exact hlt
      · exact Nat.lt_trans hlt (hk d hd)
    · split
      · next heq => subst heq; exact List.pairwise_cons.2 ⟨hk, hm⟩
      · next h1 h2 =>
        refine List.pairwise_cons.2 ⟨fun d hd => ?_, ih hm⟩
        rcases Memory.mem_write hd with h' | h'
        · show k < d.1
          omega
        · exact hk d h'

/-- A word write keeps the canonical form. -/
theorem Memory.writeWord_wf {m : Memory} (h : Memory.wf m) (n : Nat) (v : Word) : Memory.wf (Memory.writeWord m n v) :=
  Memory.write_wf (Memory.write_wf (Memory.write_wf (Memory.write_wf h _ _) _ _) _ _) _ _

/-- What a word write leaves at each key. -/
theorem Memory.read_writeWord (m : Memory) (n : Nat) (v : Word) (k : Nat) :
    (Memory.writeWord m n v).read k =
      if k = 4 * n then some (v.extractLsb' 0 8) else if k = 4 * n + 1 then some (v.extractLsb' 8 8)
      else if k = 4 * n + 2 then some (v.extractLsb' 16 8)
      else if k = 4 * n + 3 then some (v.extractLsb' 24 8) else m.read k := by
  simp only [Memory.writeWord, Memory.read_write]
  grind

/-- The four lanes of a word make the word. -/
theorem lanes_append (v : Word) :
    v.extractLsb' 24 8 ++ v.extractLsb' 16 8 ++ v.extractLsb' 8 8 ++ v.extractLsb' 0 8 = v := by
  apply BitVec.eq_of_getLsbD_eq
  intro i hi
  simp only [BitVec.getLsbD_append, BitVec.getLsbD_extractLsb']
  grind

/-- A word read back from its bytes (R48). -/
theorem bytesWord_wordBytes (v : Word) :
    bytesWord (v.extractLsb' 0 8) (v.extractLsb' 8 8) (v.extractLsb' 16 8) (v.extractLsb' 24 8) = v :=
  lanes_append v

/-- The cell written reads as the value written (R45). -/
theorem State.ramCell_setRamCell_same (s : State) (a v : Word) : (s.setRamCell a v).ramCell a = v := by
  have hl : ∀ k, (s.setRamCell a v).ramLane k =
      ((Memory.writeWord s.ram a.toNat v).read k).getD (Config.initialByte s.epoch k) := fun _ => rfl
  simp only [State.ramCell, hl, Memory.read_writeWord]
  simp [lanes_append]

/-- Another cell reads as before (R42). -/
theorem State.ramCell_setRamCell_other (s : State) {a a' : Word} (v : Word) (h : a' ≠ a) :
    (s.setRamCell a v).ramCell a' = s.ramCell a' := by
  have hl : ∀ k, (s.setRamCell a v).ramLane k =
      ((Memory.writeWord s.ram a.toNat v).read k).getD (Config.initialByte s.epoch k) := fun _ => rfl
  have hn : a'.toNat ≠ a.toNat := fun e => h (BitVec.eq_of_toNat_eq e)
  simp only [State.ramCell, hl, Memory.read_writeWord]
  have e : ∀ i < 4, ∀ j < 4, 4 * a'.toNat + i ≠ 4 * a.toNat + j := by omega
  have e0 : ∀ i < 4, 4 * a'.toNat + i ≠ 4 * a.toNat := by omega
  have e1 : ∀ j < 4, 4 * a'.toNat ≠ 4 * a.toNat + j := by omega
  have e2 : 4 * a'.toNat ≠ 4 * a.toNat := by omega
  simp only [e, e0, e1, e2, if_false, Nat.reduceLT]
  rfl

/-- A cell depends on the listed lanes and the reset number alone. -/
theorem State.ramCell_congr {s t : State} (hr : t.ram = s.ram) (he : t.epoch = s.epoch) (a : Word) :
    t.ramCell a = s.ramCell a := by simp [State.ramCell, State.ramLane, hr, he]

/-- The instruction word a loader places is the one a fetch reads. -/
theorem Memory.wordLanes_writeWord (m : Memory) (n : Nat) (v : Word) :
    (Memory.writeWord m n v).wordLanes n = some (wordBytes v) := by
  simp [Memory.wordLanes, Memory.read_writeWord, wordBytes]

end Sys2Proof.Machine
end

