-- ==== Sys2Proof/Laws/Ops.lean ====
section
/-!
SUPPORT. For each shared operation one lemma that says everything it can do: provers cite these instead of
unfolding the operation.
-/

namespace Sys2Proof.Machine

variable {s t : State}

/-! ### Answers -/

theorem State.writeResult_next {rd : Reg} {v : Word} :
    s.writeResult rd v = .next t ↔ t = (s.setReg rd v).advance := by
  simp [State.writeResult, eq_comm]

theorem State.compare_next {a b : Word} :
    s.compare a b = .next t ↔ t = (s.setFlags (compareEq a b) (compareGt a b)).advance := by
  simp [State.compare, eq_comm]

/-- What a `csr mov` read answers (R135): both flags and the pc change, a free value may be drawn. -/
theorem State.csrTest_cases {k : BitVec 4} {h : Half} {v : BitVec 16} (hn : s.csrTest k h v = .next t) :
    (csrAt s.cfg k).isSome ∧
      ∃ e g, t = (s.setFlags e g).advance ∨ t = (s.drawn.setFlags e g).advance := by
  unfold State.csrTest at hn
  split at hn
  · cases hn
  · next c hc =>
    refine ⟨by simp [hc], ?_⟩
    dsimp only at hn
    split at hn
    · split at hn
      · cases hn; exact ⟨_, _, .inr rfl⟩
      · cases hn; exact ⟨_, _, .inl rfl⟩
    · cases hn; exact ⟨_, _, .inr rfl⟩

/-- A `csr mov` read of one existing bit (R135). -/
theorem State.csrTest_oneHot {k : BitVec 4} {h : Half} {v : BitVec 16} {c : Csr} (hc : csrAt s.cfg k = some c)
    (ho : oneHotWord (placeMask h v) = true) (hp : placeMask h v &&& c.present ≠ 0#32) :
    s.csrTest k h v = .next (s.setFlags (testedEq (s.csrRead c &&& placeMask h v != 0#32))
      (testedGt (s.csrRead c &&& placeMask h v != 0#32))).advance := by
  simp [State.csrTest, hc, ho, hp]

/-- What a `csr mov` set answers (R136). -/
theorem State.csrSet_cases {k : BitVec 4} {h : Half} {v : BitVec 16} (hn : s.csrSet k h v = .next t) :
    ∃ c, csrAt s.cfg k = some c ∧ placeMask h v &&& ~~~c.present = 0#32 ∧
      t = (s.setCsrStored c (s.csrStored c ||| (placeMask h v &&& c.settable))).advance := by
  unfold State.csrSet at hn
  split at hn
  · cases hn
  · next c hc =>
    split at hn
    · next hp => cases hn; exact ⟨c, hc, hp, rfl⟩
    · cases hn

/-- What a `csr mov` clear answers (R137). -/
theorem State.csrClear_cases {k : BitVec 4} {h : Half} {v : BitVec 16} (hn : s.csrClear k h v = .next t) :
    ∃ c, csrAt s.cfg k = some c ∧
      t = (s.setCsrStored c
        (s.csrStored c &&& (clearOperand s.cfg.clearPolarity h v ||| ~~~c.clearable))).advance := by
  unfold State.csrClear at hn
  split at hn
  · cases hn
  · next c hc => cases hn; exact ⟨c, hc, rfl⟩

/-- A bus transaction ends in IDLE at a ready target and stays in ACCESS at a busy one (R201). -/
@[simp] theorem apbRun_eq (b : ApbState) (r : Bool) : apbRun b r = if r then .idle else .access := by
  cases b <;> cases r <;> rfl

/-- What `ld` answers (R110, R53): it completes at a ready target, or it waits. -/
theorem State.load_cases {rd : Reg} {a : Word} (hn : s.load rd a = .next t) :
    ∃ d, targetOf s.cfg a = some d ∧
      ((s.ready d = true ∧
          t = (((s.loadFrom d a).2.setReg rd (s.loadFrom d a).1).setBus .idle).advance) ∨
        (s.ready d = false ∧ t = s.setBus .access)) := by
  unfold State.load at hn
  split at hn
  · cases hn
  · next d hd =>
    refine ⟨d, hd, ?_⟩
    simp only [apbRun_eq, if_true, Bool.false_eq_true, if_false] at hn
    split at hn
    · next h => cases hn; exact .inl ⟨h, rfl⟩
    · next h => cases hn; exact .inr ⟨by simpa using h, rfl⟩

/-- What `st` answers (R111, R53, R55): it completes at a ready target, or it waits. -/
theorem State.store_cases {a v : Word} (hn : s.store a v = .next t) :
    ∃ d, targetOf s.cfg a = some d ∧ ¬(s.cfg.codeStores = .guarded ∧ s.isCode a = true) ∧
      ((s.ready d = true ∧ t = ((s.storeTo d a v).setBus .idle).advance) ∨
        (s.ready d = false ∧ t = s.setBus .access)) := by
  unfold State.store at hn
  split at hn
  · cases hn
  · next d hd =>
    refine ⟨d, hd, ?_⟩
    split at hn
    · cases hn
    · next hg =>
      refine ⟨hg, ?_⟩
      simp only [apbRun_eq, if_true, Bool.false_eq_true, if_false] at hn
      split at hn
      · next h => cases hn; exact .inl ⟨h, rfl⟩
      · next h => cases hn; exact .inr ⟨by simpa using h, rfl⟩

/-- What `iret` answers (R132). -/
theorem State.returnFromInterrupt_cases (hn : s.returnFromInterrupt = .next t) :
    pcAligned s.cfg (s.reg 12#4) = true ∧
      t = (({ s with csr5 := csr5AfterReturn s.csr5 }).setFlags
        (unpackEq s.cfg.flagsLayout (s.reg 13#4)) (unpackGt s.cfg.flagsLayout (s.reg 13#4))).jump
          (s.reg 12#4) := by
  unfold State.returnFromInterrupt at hn
  split at hn
  · next h => cases hn; exact ⟨h, rfl⟩
  · cases hn

/-! ### What a load or a store changes -/

/-- A load changes at most the UART, the SPI status bits, the GPIO read latch and the draw count (R44). -/
theorem State.loadFrom_frame (d : Target) (a : Word) :
    (s.loadFrom d a).2 = { s with
      csr2 := (s.loadFrom d a).2.csr2, uart := (s.loadFrom d a).2.uart
      gpio := (s.loadFrom d a).2.gpio, freeCount := (s.loadFrom d a).2.freeCount } := by
  cases d <;> simp only [State.loadFrom, State.loadUart, State.loadSpi, State.loadPort] <;>
    (repeat' split) <;> rfl

/-- A store changes at most data memory, the devices and the draw count (R45). -/
theorem State.storeTo_frame (d : Target) (a v : Word) :
    s.storeTo d a v = { s with
      ram := (s.storeTo d a v).ram, pwm := (s.storeTo d a v).pwm, uart := (s.storeTo d a v).uart
      spi := (s.storeTo d a v).spi, timer := (s.storeTo d a v).timer, gpio := (s.storeTo d a v).gpio
      freeCount := (s.storeTo d a v).freeCount } := by
  cases d <;> simp only [State.storeTo, State.storeUart] <;> (repeat' split) <;> rfl

/-- Only a store to data memory changes it, by one word write. -/
theorem State.storeTo_ram (d : Target) (a v : Word) :
    (s.storeTo d a v).ram = if d = .ram then s.ram.writeWord a.toNat v else s.ram := by
  cases d <;> simp only [State.storeTo, State.storeUart] <;> (repeat' split) <;> first | rfl | contradiction

/-! ### Interrupt entry and the resets -/

/-- What taking an interrupt changes (R161, R162). -/
theorem State.enterInterrupt_frame (l : Level) :
    s.enterInterrupt l = { s with
      regs := (s.enterInterrupt l).regs, pc := vectorOf s.cfg l, csr5 := csr5AfterEntry l s.csr5 } := rfl

theorem State.enterInterrupt_reg (l : Level) (r : Reg) :
    (s.enterInterrupt l).reg r =
      if r = 13#4 then packFlags s.cfg.flagsLayout s.flagEq s.flagGt
      else if r = 12#4 then s.pc else s.reg r := by
  show ((s.setReg 12#4 s.pc).setReg 13#4 (packFlags s.cfg.flagsLayout s.flagEq s.flagGt)).reg r = _
  rw [State.setReg_reg, State.setReg_reg]

@[simp] theorem State.applyReset_pc : s.applyReset.pc = s.cfg.resetPc := rfl
@[simp] theorem State.applyReset_halted : s.applyReset.halted = false := rfl
@[simp] theorem State.applyReset_ram : s.applyReset.ram = [] := rfl
@[simp] theorem State.applyReset_imem : s.applyReset.imem = s.imem := rfl
@[simp] theorem State.applyReset_cfg : s.applyReset.cfg = s.cfg := rfl
@[simp] theorem State.applyReset_bus : s.applyReset.bus = .idle := rfl
@[simp] theorem State.applyReset_inputs : s.applyReset.inputs = s.inputs := rfl
@[simp] theorem State.applyReset_csr5 :
    s.applyReset.csr5 = (s.csr5 ||| 0x030000#22) &&& 0x2FFFFF#22 := rfl
@[simp] theorem State.watchdogReset_pc : s.watchdogReset.pc = s.cfg.resetPc := rfl
@[simp] theorem State.watchdogReset_halted : s.watchdogReset.halted = false := rfl
@[simp] theorem State.watchdogReset_ram : s.watchdogReset.ram = [] := rfl
@[simp] theorem State.watchdogReset_imem : s.watchdogReset.imem = s.imem := rfl
@[simp] theorem State.watchdogReset_cfg : s.watchdogReset.cfg = s.cfg := rfl
@[simp] theorem State.watchdogReset_bus : s.watchdogReset.bus = .idle := rfl
@[simp] theorem State.watchdogReset_inputs : s.watchdogReset.inputs = s.inputs := rfl
@[simp] theorem State.watchdogReset_epoch : s.watchdogReset.epoch = s.epoch + 1 := rfl

/-! ### One bit of a bit field -/

/-- Reading any bit of a field after one bit was made `b`. -/
theorem getLsbD_setBit {n : Nat} (x : BitVec n) (i j : Nat) (b : Bool) :
    (setBit x i b).getLsbD j = if j = i ∧ i < n then b else x.getLsbD j := by
  unfold setBit
  split
  · next hb =>
    by_cases hj : j < n <;> simp [BitVec.getLsbD_or, BitVec.getLsbD_twoPow, hb] <;> grind
  · next hb =>
    by_cases hj : j < n <;>
      simp [BitVec.getLsbD_and, BitVec.getLsbD_not, BitVec.getLsbD_twoPow, hj] <;> grind

/-! ### What the environment changes -/

/-- An event of the environment changes at most the status bits of `csr[2]`, the flags of `csr[5]`, the
devices, the watchdog and the draw count (R203). -/
theorem State.applyEvent_frame (e : EnvEvent) :
    s.applyEvent e = { s with
      csr2 := (s.applyEvent e).csr2, csr5 := (s.applyEvent e).csr5, pwm := (s.applyEvent e).pwm
      uart := (s.applyEvent e).uart, spi := (s.applyEvent e).spi, timer := (s.applyEvent e).timer
      gpio := (s.applyEvent e).gpio, wdt := (s.applyEvent e).wdt
      freeCount := (s.applyEvent e).freeCount } := by
  cases e <;>
    simp only [State.applyEvent, State.timerClock, State.timerCount, State.pwmTick, State.uartTxTick,
      State.uartRxBit, State.uartLineIdle, State.spiSelect, State.spiClock, State.spiPhaseHigh, State.spiPhaseLow,
      State.spiEnd, State.spiToggle, State.watchdogCycle, State.watchdogFire, State.drivePins,
      State.raiseFlag] <;>
    (repeat' split) <;> rfl

/-- What all the events of a boundary leave alone. -/
structure EnvFrame (s t : State) : Prop where
  regs : t.regs = s.regs
  pc : t.pc = s.pc
  flagEq : t.flagEq = s.flagEq
  flagGt : t.flagGt = s.flagGt
  halted : t.halted = s.halted
  csr1 : t.csr1 = s.csr1
  csr3 : t.csr3 = s.csr3
  csr4 : t.csr4 = s.csr4
  tmcon : t.tmcon = s.tmcon
  ram : t.ram = s.ram
  imem : t.imem = s.imem
  bus : t.bus = s.bus
  epoch : t.epoch = s.epoch
  cfg : t.cfg = s.cfg

theorem EnvFrame.refl (s : State) : EnvFrame s s := ⟨rfl, rfl, rfl, rfl, rfl, rfl, rfl, rfl, rfl, rfl, rfl, rfl, rfl, rfl⟩

theorem EnvFrame.trans {a b c : State} (h : EnvFrame a b) (k : EnvFrame b c) : EnvFrame a c :=
  ⟨k.regs.trans h.regs, k.pc.trans h.pc, k.flagEq.trans h.flagEq, k.flagGt.trans h.flagGt,
    k.halted.trans h.halted, k.csr1.trans h.csr1, k.csr3.trans h.csr3, k.csr4.trans h.csr4,
    k.tmcon.trans h.tmcon, k.ram.trans h.ram, k.imem.trans h.imem, k.bus.trans h.bus,
    k.epoch.trans h.epoch, k.cfg.trans h.cfg⟩

theorem State.applyEvent_envFrame (s : State) (e : EnvEvent) : EnvFrame s (s.applyEvent e) := by
  rw [State.applyEvent_frame]
  exact ⟨rfl, rfl, rfl, rfl, rfl, rfl, rfl, rfl, rfl, rfl, rfl, rfl, rfl, rfl⟩

theorem State.applyEvents_envFrame (es : List EnvEvent) : ∀ s : State, EnvFrame s (s.applyEvents es) := by
  induction es with
  | nil => exact EnvFrame.refl
  | cons e es ih => exact fun s => (s.applyEvent_envFrame e).trans (ih _)

theorem State.holdWatchdog_envFrame (s : State) : EnvFrame s s.holdWatchdog := by
  unfold State.holdWatchdog
  split <;> exact ⟨rfl, rfl, rfl, rfl, rfl, rfl, rfl, rfl, rfl, rfl, rfl, rfl, rfl, rfl⟩

theorem State.stallCycle_envFrame (s : State) : EnvFrame s s.stallCycle := by
  unfold State.stallCycle
  split
  · exact s.applyEvent_envFrame (.watchdogCycle false)
  · exact EnvFrame.refl s

theorem State.notePc_envFrame (s : State) : EnvFrame s s.notePc :=
  ⟨rfl, rfl, rfl, rfl, rfl, rfl, rfl, rfl, rfl, rfl, rfl, rfl, rfl, rfl⟩

theorem State.dropInput_envFrame (s : State) : EnvFrame s s.dropInput :=
  ⟨rfl, rfl, rfl, rfl, rfl, rfl, rfl, rfl, rfl, rfl, rfl, rfl, rfl, rfl⟩

/-- The boundary leaves everything a program addresses directly alone (R203). -/
theorem State.atBoundary_envFrame (s : State) : EnvFrame s s.atBoundary :=
  s.dropInput_envFrame.trans <| (State.holdWatchdog_envFrame _).trans <| (State.stallCycle_envFrame _).trans <|
    (State.applyEvents_envFrame _ _).trans (State.notePc_envFrame _)

/-- A cycle changes the watchdog alone (R180 to R183). -/
theorem State.watchdogCycle_frame (s : State) (b : Bool) :
    s.watchdogCycle b = { s with wdt := (s.watchdogCycle b).wdt } := by
  unfold State.watchdogCycle
  dsimp only
  split <;> rfl

/-- Holding the disabled watchdog changes the watchdog alone (R183). -/
theorem State.holdWatchdog_frame (s : State) : s.holdWatchdog = { s with wdt := s.holdWatchdog.wdt } := by
  unfold State.holdWatchdog
  split <;> rfl

/-- The cycle of a step that left the pc as it was changes the watchdog alone (R182). -/
theorem State.stallCycle_frame (s : State) : s.stallCycle = { s with wdt := s.stallCycle.wdt } := by
  unfold State.stallCycle
  split
  · exact s.watchdogCycle_frame false
  · rfl

/-- An event never clears a bit of `csr[5]`, and changes none above bit 15 (R156). -/
theorem State.applyEvent_csr5 (s : State) (e : EnvEvent) :
    (s.applyEvent e).csr5 = s.csr5 ∨ ∃ i, (s.applyEvent e).csr5 = setBit s.csr5 (2 * sourceIndex i) true := by
  cases e <;>
    simp only [State.applyEvent, State.timerClock, State.timerCount, State.pwmTick, State.uartTxTick,
      State.uartRxBit, State.uartLineIdle, State.spiSelect, State.spiClock, State.spiPhaseHigh, State.spiPhaseLow,
      State.spiEnd, State.spiToggle, State.watchdogCycle, State.watchdogFire, State.drivePins,
      State.raiseFlag] <;>
    (repeat' split) <;>
      first | exact .inl trivial | exact .inl rfl | exact .inr ⟨_, rfl⟩

end Sys2Proof.Machine
end

