-- ==== Sys2Proof/Laws/PerInstr.lean ====
section
/-!
SUPPORT. Statements about every instruction as syntax, one lemma for each constructor.
-/

/-- The opcode field of an instruction's word is the instruction's code in the opcode map (spec/30_encoding.md
R69). -/
def Sys2Proof.Laws.EncodeOpcode.Statement (i : Sys2Proof.Instr) : Prop :=
  Sys2Proof.opField (Sys2Proof.encode i) = i.opcode

namespace Sys2Proof.Laws.EncodeOpcode

theorem addReg (rd rs1 rs2 : Reg) : Statement (.addReg rd rs1 rs2) := opField_encodeReg ..
theorem addImm (rd rs1 : Reg) (m : Modifier) (imm : BitVec 16) : Statement (.addImm rd rs1 m imm) := opField_encodeImm ..
theorem subReg (rd rs1 rs2 : Reg) : Statement (.subReg rd rs1 rs2) := opField_encodeReg ..
theorem subImm (rd rs1 : Reg) (m : Modifier) (imm : BitVec 16) : Statement (.subImm rd rs1 m imm) := opField_encodeImm ..
theorem hlt : Statement (.hlt) := opField_encodeBare ..
theorem xorReg (rd rs1 rs2 : Reg) : Statement (.xorReg rd rs1 rs2) := opField_encodeReg ..
theorem xorImm (rd rs1 : Reg) (m : Modifier) (imm : BitVec 16) : Statement (.xorImm rd rs1 m imm) := opField_encodeImm ..
theorem aslReg (rd rs1 rs2 : Reg) : Statement (.aslReg rd rs1 rs2) := opField_encodeReg ..
theorem aslImm (rd rs1 : Reg) (m : Modifier) (imm : BitVec 16) : Statement (.aslImm rd rs1 m imm) := opField_encodeImm ..
theorem cmpReg (rs1 rs2 : Reg) : Statement (.cmpReg rs1 rs2) := opField_encodeReg ..
theorem cmpImm (rs1 : Reg) (m : Modifier) (imm : BitVec 16) : Statement (.cmpImm rs1 m imm) := opField_encodeImm ..
theorem andReg (rd rs1 rs2 : Reg) : Statement (.andReg rd rs1 rs2) := opField_encodeReg ..
theorem andImm (rd rs1 : Reg) (m : Modifier) (imm : BitVec 16) : Statement (.andImm rd rs1 m imm) := opField_encodeImm ..
theorem orReg (rd rs1 rs2 : Reg) : Statement (.orReg rd rs1 rs2) := opField_encodeReg ..
theorem orImm (rd rs1 : Reg) (m : Modifier) (imm : BitVec 16) : Statement (.orImm rd rs1 m imm) := opField_encodeImm ..
theorem notReg (rd rs2 : Reg) : Statement (.notReg rd rs2) := opField_encodeReg ..
theorem notImm (rd : Reg) (m : Modifier) (imm : BitVec 16) : Statement (.notImm rd m imm) := opField_encodeImm ..
theorem movReg (rd rs2 : Reg) : Statement (.movReg rd rs2) := opField_encodeReg ..
theorem movImm (rd : Reg) (m : Modifier) (imm : BitVec 16) : Statement (.movImm rd m imm) := opField_encodeImm ..
theorem lslReg (rd rs1 rs2 : Reg) : Statement (.lslReg rd rs1 rs2) := opField_encodeReg ..
theorem lslImm (rd rs1 : Reg) (m : Modifier) (imm : BitVec 16) : Statement (.lslImm rd rs1 m imm) := opField_encodeImm ..
theorem lsrReg (rd rs1 rs2 : Reg) : Statement (.lsrReg rd rs1 rs2) := opField_encodeReg ..
theorem lsrImm (rd rs1 : Reg) (m : Modifier) (imm : BitVec 16) : Statement (.lsrImm rd rs1 m imm) := opField_encodeImm ..
theorem asrReg (rd rs1 rs2 : Reg) : Statement (.asrReg rd rs1 rs2) := opField_encodeReg ..
theorem asrImm (rd rs1 : Reg) (m : Modifier) (imm : BitVec 16) : Statement (.asrImm rd rs1 m imm) := opField_encodeImm ..
theorem nop : Statement (.nop) := opField_encodeBare ..
theorem ldReg (rd rs1 rs2 : Reg) : Statement (.ldReg rd rs1 rs2) := opField_encodeReg ..
theorem ldImm (rd rs1 : Reg) (m : Modifier) (imm : BitVec 16) : Statement (.ldImm rd rs1 m imm) := opField_encodeImm ..
theorem stReg (rd rs1 rs2 : Reg) : Statement (.stReg rd rs1 rs2) := opField_encodeReg ..
theorem stImm (rd rs1 : Reg) (m : Modifier) (imm : BitVec 16) : Statement (.stImm rd rs1 m imm) := opField_encodeImm ..
theorem beq (offset : BitVec 27) : Statement (.beq offset) := opField_encodeBranch ..
theorem bgt (offset : BitVec 27) : Statement (.bgt offset) := opField_encodeBranch ..
theorem b (offset : BitVec 27) : Statement (.b offset) := opField_encodeBranch ..
theorem call (offset : BitVec 27) : Statement (.call offset) := opField_encodeBranch ..
theorem ret : Statement (.ret) := opField_encodeBare ..
theorem iret : Statement (.iret) := opField_encodeBare ..
theorem csrReadLo (k : BitVec 4) (mask : BitVec 16) : Statement (.csrReadLo k mask) := opField_encodeCsr ..
theorem csrReadHi (k : BitVec 4) (mask : BitVec 16) : Statement (.csrReadHi k mask) := opField_encodeCsr ..
theorem csrSetLo (k : BitVec 4) (mask : BitVec 16) : Statement (.csrSetLo k mask) := opField_encodeCsr ..
theorem csrSetHi (k : BitVec 4) (mask : BitVec 16) : Statement (.csrSetHi k mask) := opField_encodeCsr ..
theorem csrClearLo (k : BitVec 4) (mask : BitVec 16) : Statement (.csrClearLo k mask) := opField_encodeCsr ..
theorem csrClearHi (k : BitVec 4) (mask : BitVec 16) : Statement (.csrClearHi k mask) := opField_encodeCsr ..

end Sys2Proof.Laws.EncodeOpcode
end

