-- ==== Sys2Proof/Laws/Step.lean ====
section
/-!
SUPPORT. What one instruction, and one step, can do: the inversion lemmas every invariant is derived from.
-/

namespace Sys2Proof.Machine

/-- Every next state an instruction can answer, by the shape of its effect. -/
inductive Effect (s : State) : State → Prop where
  | result (rd : Reg) (v : Word) : Effect s (s.setReg rd v).advance
  | flags (e g : Bool) : Effect s (s.setFlags e g).advance
  | freeFlags (e g : Bool) : Effect s (s.drawn.setFlags e g).advance
  | jump (t : Word) (h : pcAligned s.cfg t = true ∨ t = s.nextPc ∨ ∃ o, t = s.branchTarget o) :
      Effect s (s.jump t)
  | call (o : BitVec 27) : Effect s ((s.setReg s.cfg.linkReg s.nextPc).jump (s.branchTarget o))
  | halt : Effect s s.halt
  | iret (h : pcAligned s.cfg (s.reg 12#4) = true) : Effect s
      ((({ s with csr5 := csr5AfterReturn s.csr5 }).setFlags
        (unpackEq s.cfg.flagsLayout (s.reg 13#4)) (unpackGt s.cfg.flagsLayout (s.reg 13#4))).jump
          (s.reg 12#4))
  | csrSet (c : Csr) (p : Word) :
      Effect s (s.setCsrStored c (s.csrStored c ||| (p &&& c.settable))).advance
  | csrClear (c : Csr) (p : Word) :
      Effect s (s.setCsrStored c (s.csrStored c &&& (p ||| ~~~c.clearable))).advance
  | load (d : Target) (rd : Reg) (a : Word) (h : s.ready d = true) :
      Effect s (((s.loadFrom d a).2.setReg rd (s.loadFrom d a).1).setBus .idle).advance
  | store (d : Target) (a v : Word) (h : s.ready d = true) :
      Effect s ((s.storeTo d a v).setBus .idle).advance
  | wait (d : Target) (h : s.ready d = false) : Effect s (s.setBus .access)

theorem Effect.of_writeResult {s t : State} {rd : Reg} {v : Word} (h : s.writeResult rd v = .next t) :
    Effect s t := State.writeResult_next.1 h ▸ .result rd v

theorem Effect.of_compare {s t : State} {a b : Word} (h : s.compare a b = .next t) : Effect s t :=
  State.compare_next.1 h ▸ .flags _ _

theorem Effect.of_csrTest {s t : State} {k : BitVec 4} {l : Half} {v : BitVec 16}
    (h : s.csrTest k l v = .next t) : Effect s t := by
  obtain ⟨-, e, g, rfl | rfl⟩ := State.csrTest_cases h
  · exact .flags e g
  · exact .freeFlags e g

theorem Effect.of_csrSet {s t : State} {k : BitVec 4} {l : Half} {v : BitVec 16}
    (h : s.csrSet k l v = .next t) : Effect s t := by
  obtain ⟨c, -, -, rfl⟩ := State.csrSet_cases h
  exact .csrSet c _

theorem Effect.of_csrClear {s t : State} {k : BitVec 4} {l : Half} {v : BitVec 16}
    (h : s.csrClear k l v = .next t) : Effect s t := by
  obtain ⟨c, -, rfl⟩ := State.csrClear_cases h
  exact .csrClear c _

theorem Effect.of_load {s t : State} {rd : Reg} {a : Word} (h : s.load rd a = .next t) : Effect s t := by
  obtain ⟨d, -, ⟨hr, rfl⟩ | ⟨hr, rfl⟩⟩ := State.load_cases h
  · exact .load d rd a hr
  · exact .wait d hr

theorem Effect.of_store {s t : State} {a v : Word} (h : s.store a v = .next t) : Effect s t := by
  obtain ⟨d, -, -, ⟨hr, rfl⟩ | ⟨hr, rfl⟩⟩ := State.store_cases h
  · exact .store d a v hr
  · exact .wait d hr

theorem Effect.of_branch {s t : State} {c : Bool} {o : BitVec 27}
    (h : (Host.Outcome.next (s.jump (if c then s.branchTarget o else s.nextPc)) : Result) = .next t) :
    Effect s t := by
  cases h
  cases c
  · exact .jump _ (.inr (.inl rfl))
  · exact .jump _ (.inr (.inr ⟨o, rfl⟩))

theorem Effect.of_ret {s t : State} (h : execRet s = .next t) : Effect s t := by
  unfold execRet at h
  split at h
  · next ha => cases h; exact .jump _ (.inl ha)
  · cases h

theorem Effect.of_iret {s t : State} (h : s.returnFromInterrupt = .next t) : Effect s t := by
  obtain ⟨ha, rfl⟩ := State.returnFromInterrupt_cases h
  exact .iret ha

/-- Every next state of every instruction has one of the shapes of `Effect`. -/
theorem exec_effect {i : Instr} {s t : State} (h : exec i s = .next t) : Effect s t := by
  cases i with
  | addReg => exact .of_writeResult h
  | addImm => exact .of_writeResult h
  | subReg => exact .of_writeResult h
  | subImm => exact .of_writeResult h
  | hlt => cases h; exact .halt
  | xorReg => exact .of_writeResult h
  | xorImm => exact .of_writeResult h
  | aslReg => exact .of_writeResult h
  | aslImm => exact .of_writeResult h
  | cmpReg => exact .of_compare h
  | cmpImm => exact .of_compare h
  | andReg => exact .of_writeResult h
  | andImm => exact .of_writeResult h
  | orReg => exact .of_writeResult h
  | orImm => exact .of_writeResult h
  | notReg => exact .of_writeResult h
  | notImm => exact .of_writeResult h
  | movReg => exact .of_writeResult h
  | movImm => exact .of_writeResult h
  | lslReg => exact .of_writeResult h
  | lslImm => exact .of_writeResult h
  | lsrReg => exact .of_writeResult h
  | lsrImm => exact .of_writeResult h
  | asrReg => exact .of_writeResult h
  | asrImm => exact .of_writeResult h
  | nop => cases h; exact .jump _ (.inr (.inl rfl))
  | ldReg => exact .of_load h
  | ldImm => exact .of_load h
  | stReg => exact .of_store h
  | stImm => exact .of_store h
  | beq => exact .of_branch h
  | bgt => exact .of_branch h
  | b o => cases h; exact .jump _ (.inr (.inr ⟨o, rfl⟩))
  | call o => cases h; exact .call o
  | ret => exact .of_ret h
  | iret => exact .of_iret h
  | csrReadLo => exact .of_csrTest h
  | csrReadHi => exact .of_csrTest h
  | csrSetLo => exact .of_csrSet h
  | csrSetHi => exact .of_csrSet h
  | csrClearLo => exact .of_csrClear h
  | csrClearHi => exact .of_csrClear h

/-- Every next state of a step (R6): the reset of a halted machine, a watchdog reset that is due, an interrupt entry, or
the instruction at the pc. -/
theorem step_cases {s t : State} (h : step s = .next t) :
    (s.halted = true ∧ s.watchdogEnabled = true ∧ t = s.atBoundary.watchdogReset) ∨
    (s.halted = false ∧ s.atBoundary.resetDue = true ∧ t = s.atBoundary.watchdogReset) ∨
    (s.halted = false ∧ s.atBoundary.resetDue = false ∧
      ∃ l, s.atBoundary.takenInterrupt s.boundary.samples = some l ∧ t = s.atBoundary.enterInterrupt l) ∨
    (s.halted = false ∧ s.atBoundary.resetDue = false ∧
      s.atBoundary.takenInterrupt s.boundary.samples = none ∧
      ∃ i, s.atBoundary.fetchInstr = .ok i ∧ exec i s.atBoundary = .next t) := by
  unfold step at h
  split at h
  · next hh =>
    split at h
    · next hw => cases h; exact .inl ⟨hh, hw, rfl⟩
    · cases h
  · next hh =>
    have hh' : s.halted = false := by simpa using hh
    split at h
    · next hr => cases h; exact .inr (.inl ⟨hh', hr, rfl⟩)
    · next hr =>
      have hr' : s.atBoundary.resetDue = false := by simpa using hr
      split at h
      · next l hl => cases h; exact .inr (.inr (.inl ⟨hh', hr', l, hl, rfl⟩))
      · next hn =>
        split at h
        · next i hi => exact .inr (.inr (.inr ⟨hh', hr', hn, i, hi, h⟩))
        · cases h

end Sys2Proof.Machine
end

