-- ==== Sys2Proof/Tests/Slice0.lean ====
section
/-!
SUPPORT. Tests: ill-formed terms that the checks refuse, the decoding of every constructor's word, the vectors of
spec/95_test_vectors.md one step at a time, and for every statement with hypotheses a witness that meets them.
Expected words and results are the spec's (S<n> and V-… of 95_test_vectors.md) or written out by hand from R61, R67
and R69.
-/

open Sys2Proof Sys2Proof.Machine Sys2Proof.Claims

namespace Sys2Proof.Tests

/-! ### Well-formedness -/

/-- Index 9 is no CSR (R27). -/
theorem test_wf_undefined_index : (Instr.csrClearLo 9#4 0xFFFF#16).wellFormed Config.default = false := by decide

/-- A read of two bits (R135). -/
theorem test_wf_read_of_two_bits : (Instr.csrReadLo 5#4 0x0003#16).wellFormed Config.default = false := by decide

/-- A set aimed at the reserved bit 22 (R19, R25). -/
theorem test_wf_set_of_reserved_bit : (Instr.csrSetHi 5#4 0x0040#16).wellFormed Config.default = false := by decide

/-- Their neighbours inside the contract. -/
theorem test_wf_accepts :
    (Instr.csrClearLo 5#4 0xFFFF#16).wellFormed Config.default = true ∧
    (Instr.csrReadHi 5#4 0x0010#16).wellFormed Config.default = true ∧
    (Instr.csrSetHi 5#4 0x0020#16).wellFormed Config.default = true := by decide

/-! ### Decoding: one word for every constructor -/

theorem test_decode_add_sub :
    decode .ignore 0x00C48000#32 = .ok (.addReg 3#4 1#4 2#4) ∧
    decode .ignore 0x0444FFFF#32 = .ok (.addImm 1#4 1#4 .signed 0xFFFF#16) ∧
    decode .ignore 0x08C48000#32 = .ok (.subReg 3#4 1#4 2#4) ∧
    decode .ignore 0x0CC48000#32 = .ok (.subImm 3#4 1#4 .signed 0x8000#16) := ⟨rfl, rfl, rfl, rfl⟩

theorem test_decode_logic :
    decode .ignore 0x18C48000#32 = .ok (.xorReg 3#4 1#4 2#4) ∧
    decode .ignore 0x1C45FFFF#32 = .ok (.xorImm 1#4 1#4 .unsigned 0xFFFF#16) ∧
    decode .ignore 0x30C48000#32 = .ok (.andReg 3#4 1#4 2#4) ∧
    decode .ignore 0x34C6FFFF#32 = .ok (.andImm 3#4 1#4 .upper 0xFFFF#16) ∧
    decode .ignore 0x38C48000#32 = .ok (.orReg 3#4 1#4 2#4) ∧
    decode .ignore 0x3CC48000#32 = .ok (.orImm 3#4 1#4 .signed 0x8000#16) := ⟨rfl, rfl, rfl, rfl, rfl, rfl⟩

theorem test_decode_not_mov_cmp :
    decode .ignore 0x40C08000#32 = .ok (.notReg 3#4 2#4) ∧
    decode .ignore 0x44C1FFFF#32 = .ok (.notImm 3#4 .unsigned 0xFFFF#16) ∧
    decode .ignore 0x48C08000#32 = .ok (.movReg 3#4 2#4) ∧
    decode .ignore 0x4C828000#32 = .ok (.movImm 2#4 .upper 0x8000#16) ∧
    decode .ignore 0x28048000#32 = .ok (.cmpReg 1#4 2#4) ∧
    decode .ignore 0x2C05FFFF#32 = .ok (.cmpImm 1#4 .unsigned 0xFFFF#16) := ⟨rfl, rfl, rfl, rfl, rfl, rfl⟩

theorem test_decode_shifts :
    decode .ignore 0x20C48000#32 = .ok (.aslReg 3#4 1#4 2#4) ∧
    decode .ignore 0x24C40004#32 = .ok (.aslImm 3#4 1#4 .signed 4#16) ∧
    decode .ignore 0x50C48000#32 = .ok (.lslReg 3#4 1#4 2#4) ∧
    decode .ignore 0x54C40004#32 = .ok (.lslImm 3#4 1#4 .signed 4#16) ∧
    decode .ignore 0x58C48000#32 = .ok (.lsrReg 3#4 1#4 2#4) ∧
    decode .ignore 0x5CC60001#32 = .ok (.lsrImm 3#4 1#4 .upper 1#16) ∧
    decode .ignore 0x60C48000#32 = .ok (.asrReg 3#4 1#4 2#4) ∧
    decode .ignore 0x64C40001#32 = .ok (.asrImm 3#4 1#4 .signed 1#16) :=
  ⟨rfl, rfl, rfl, rfl, rfl, rfl, rfl, rfl⟩

theorem test_decode_load_store :
    decode .ignore 0x70C48000#32 = .ok (.ldReg 3#4 1#4 2#4) ∧
    decode .ignore 0x75840001#32 = .ok (.ldImm 6#4 1#4 .signed 1#16) ∧
    decode .ignore 0x78C48000#32 = .ok (.stReg 3#4 1#4 2#4) ∧
    decode .ignore 0x7C480001#32 = .ok (.stImm 1#4 2#4 .signed 1#16) := ⟨rfl, rfl, rfl, rfl⟩

theorem test_decode_control :
    decode .ignore 0x80000003#32 = .ok (.beq 3#27) ∧
    decode .ignore 0x8FFFFFFE#32 = .ok (.bgt 0x7FFFFFE#27) ∧
    decode .ignore 0x94000000#32 = .ok (.b 0x4000000#27) ∧
    decode .ignore 0x98000005#32 = .ok (.call 5#27) ∧
    decode .ignore 0xA0000000#32 = .ok .ret ∧ decode .ignore 0xA8000000#32 = .ok .iret ∧
    decode .ignore 0x13FFFFFF#32 = .ok .hlt ∧ decode .ignore 0x68000001#32 = .ok .nop :=
  ⟨rfl, rfl, rfl, rfl, rfl, rfl, rfl, rfl⟩

theorem test_decode_csr :
    decode .ignore 0x4D710001#32 = .ok (.csrReadLo 5#4 0x0001#16) ∧
    decode .ignore 0x4D720010#32 = .ok (.csrReadHi 5#4 0x0010#16) ∧
    decode .ignore 0x4CE900E6#32 = .ok (.csrSetLo 3#4 0x00E6#16) ∧
    decode .ignore 0x4D6A0003#32 = .ok (.csrSetHi 5#4 0x0003#16) ∧
    decode .ignore 0x4D64FFFE#32 = .ok (.csrClearLo 5#4 0xFFFE#16) ∧
    decode .ignore 0x4D66FFFC#32 = .ok (.csrClearHi 5#4 0xFFFC#16) := ⟨rfl, rfl, rfl, rfl, rfl, rfl⟩

/-- V-DEC-1 to 4 and V-CSR-17 to 20: words without an instruction, by name. -/
theorem test_decode_refusals :
    decode .ignore 0xB0000000#32 = .error .reservedOpcode ∧ decode .ignore 0xFFFFFFFF#32 = .error .reservedOpcode ∧
    decode .ignore 0x04470001#32 = .error .reservedModifier ∧ decode .ignore 0x4C830001#32 = .error .reservedModifier ∧
    decode .ignore 0x4D790001#32 = .error .undefinedCsrOperation ∧
    decode .ignore 0x4D610001#32 = .error .undefinedCsrOperation ∧
    decode .ignore 0x4D680001#32 = .error .undefinedCsrOperation ∧
    decode .ignore 0x4D650001#32 = .error .undefinedCsrOperation := ⟨rfl, rfl, rfl, rfl, rfl, rfl, rfl, rfl⟩

/-- V-ALU-22, V-SYS-7, V-DEC-6, V-DEC-8: unassigned bits under both policies. -/
theorem test_decode_unused_bits :
    decode .ignore 0x48E08000#32 = .ok (.movReg 3#4 2#4) ∧ decode .refuse 0x48E08000#32 = .error .nonzeroUnusedBits ∧
    decode .refuse 0x68000001#32 = .error .nonzeroUnusedBits ∧
    decode .ignore 0x00C48001#32 = .ok (.addReg 3#4 1#4 2#4) ∧ decode .refuse 0x00C48001#32 = .error .nonzeroUnusedBits ∧
    decode .ignore 0x2FC4000A#32 = .ok (.cmpImm 1#4 .signed 10#16) ∧
    decode .refuse 0x2FC4000A#32 = .error .nonzeroUnusedBits ∧
    decode .refuse 0x2C04000A#32 = .ok (.cmpImm 1#4 .signed 10#16) := ⟨rfl, rfl, rfl, rfl, rfl, rfl, rfl, rfl⟩

/-- V-CSR-23: bit 21 alone tells `csr mov` from `mov`; V-DEC-5: the zero word is an `add`. -/
theorem test_decode_table_word :
    decodeTableWord 32 0x4D400001 = some (.movImm 5#4 .signed 1#16) ∧
    decodeTableWord 32 0x00000000 = some (.addReg 0#4 0#4 0#4) ∧ decodeTableWord 32 0xB8000000 = none :=
  ⟨rfl, rfl, rfl⟩

/-! ### One step -/

/-- What `f` sees after one step that runs the word `w`. -/
def after {α : Type} (w : Nat) (s : State) (f : State → α) : Option α :=
  match step (s.withFetchWord 32 w) with
  | .next t => some (f t)
  | _ => none

/-- Where one step that runs the word `w` stops. -/
def stops (w : Nat) (s : State) : Option (Fault ⊕ Refusal) :=
  match step (s.withFetchWord 32 w) with
  | .next _ => none
  | .fault f => some (.inl f)
  | .refused r => some (.inr r)

/-- The reset state with `r1` and `r2` set. -/
def two (a b : Word) : State := (State.reset.setReg 1#4 a).setReg 2#4 b

/-- `r3` and the pc. -/
def r3pc (t : State) : Word × Word := (t.reg 3#4, t.pc)

/-- V-ALU-1 -/
theorem test_add_wraps : after 0x00C48000 (two 0xFFFFFFFF#32 1#32) r3pc = some (0#32, 1#32) := by decide
/-- V-ALU-6 -/
theorem test_add_same_register : after 0x00444000 (two 0x80000001#32 0#32) (·.reg 1#4) = some 2#32 := by decide
/-- V-ALU-3 -/
theorem test_addImm_signed : after 0x0444FFFF (two 0#32 0#32) (·.reg 1#4) = some 0xFFFFFFFF#32 := by decide
/-- V-ALU-5 -/
theorem test_addImm_upper : after 0x0446FFFF (two 1#32 0#32) (·.reg 1#4) = some 0xFFFF0001#32 := by decide
/-- V-ALU-7 -/
theorem test_sub_borrow : after 0x08C48000 (two 0#32 1#32) r3pc = some (0xFFFFFFFF#32, 1#32) := by decide
/-- V-ALU-9 -/
theorem test_subImm : after 0x0CC48000 (two 0#32 0#32) r3pc = some (0x00008000#32, 1#32) := by decide
/-- R92 -/
theorem test_xor : after 0x18C48000 (two 0xFF00FF00#32 0x0FF00FF0#32) r3pc = some (0xF0F0F0F0#32, 1#32) := by decide
/-- V-ALU-11 -/
theorem test_xorImm : after 0x1C45FFFF (two 0x12345678#32 0#32) (·.reg 1#4) = some 0x1234A987#32 := by decide
/-- V-ALU-12 -/
theorem test_and : after 0x30C48000 (two 0xFF00FF00#32 0x0FF00FF0#32) r3pc = some (0x0F000F00#32, 1#32) := by decide
/-- V-ALU-13 -/
theorem test_andImm : after 0x34C6FFFF (two 0x12345678#32 0#32) r3pc = some (0x12340000#32, 1#32) := by decide
/-- R94 -/
theorem test_or : after 0x38C48000 (two 0xFF00FF00#32 0x0FF00FF0#32) r3pc = some (0xFFF0FFF0#32, 1#32) := by decide
/-- V-ALU-14 -/
theorem test_orImm : after 0x3CC48000 (two 1#32 0#32) r3pc = some (0xFFFF8001#32, 1#32) := by decide
/-- V-ALU-15 -/
theorem test_not : after 0x40C08000 (two 0#32 0#32) r3pc = some (0xFFFFFFFF#32, 1#32) := by decide
/-- V-ALU-16 -/
theorem test_notImm : after 0x44C1FFFF (two 0#32 0#32) r3pc = some (0xFFFF0000#32, 1#32) := by decide
/-- V-ALU-18 -/
theorem test_mov : after 0x48C08000 (two 0#32 0xCAFEF00D#32) r3pc = some (0xCAFEF00D#32, 1#32) := by decide
/-- V-ALU-19 -/
theorem test_movImm : after 0x4C808000 (two 0#32 0#32) (·.reg 2#4) = some 0xFFFF8000#32 := by decide

/-- The flags. -/
def flags (t : State) : Bool × Bool := (t.flagEq, t.flagGt)

/-- V-CMP-4 -/
theorem test_cmp_overflow : after 0x28048000 (two 0x7FFFFFFF#32 0x80000000#32) flags = some (false, true) := by decide
/-- V-CMP-6 -/
theorem test_cmp_signed : after 0x28048000 (two 0xFFFFFFFF#32 0#32) flags = some (false, false) := by decide
/-- V-CMP-8 -/
theorem test_cmpImm_equal : after 0x2C04FFFF (two 0xFFFFFFFF#32 0#32) flags = some (true, false) := by decide
/-- V-CMP-9 -/
theorem test_cmpImm_unsigned : after 0x2C05FFFF (two 0xFFFFFFFF#32 0#32) flags = some (false, false) := by decide

/-- Section 2.3 of 95_test_vectors.md, amounts 31 and 33. -/
theorem test_shift_left :
    after 0x50C48000 (two 0x80000001#32 31#32) r3pc = some (0x80000000#32, 1#32) ∧
    after 0x20C48000 (two 0x80000001#32 33#32) r3pc = some (0x00000002#32, 1#32) := by decide
/-- Section 2.3, amounts 1 and 32, under `low5`. -/
theorem test_shift_right :
    after 0x58C48000 (two 0x80000001#32 1#32) r3pc = some (0x40000000#32, 1#32) ∧
    after 0x60C48000 (two 0x80000001#32 32#32) r3pc = some (0x80000001#32, 1#32) := by decide
/-- V-SH-1 to 4 -/
theorem test_shift_immediate :
    after 0x54C40004 (two 0x0FFFFFFF#32 0#32) r3pc = some (0xFFFFFFF0#32, 1#32) ∧
    after 0x24C40004 (two 0x0FFFFFFF#32 0#32) r3pc = some (0xFFFFFFF0#32, 1#32) ∧
    after 0x64C40001 (two 0xFFFFFFFD#32 0#32) r3pc = some (0xFFFFFFFE#32, 1#32) ∧
    after 0x5CC40004 (two 0xF0000000#32 0#32) r3pc = some (0x0F000000#32, 1#32) := by decide

/-- A state under another configuration, `r1` and `r2` set. -/
def twoWith (c : Config) (a b : Word) : State := ((State.resetWith c).setReg 1#4 a).setReg 2#4 b

/-- Section 2.3, amount 32, and V-SH-5, under `full`. -/
theorem test_shift_full :
    after 0x50C48000 (twoWith { Config.default with shamtMode := .full } 0x80000001#32 32#32) r3pc = some (0#32, 1#32) ∧
    after 0x60C48000 (twoWith { Config.default with shamtMode := .full } 0x80000001#32 32#32) r3pc =
      some (0xFFFFFFFF#32, 1#32) ∧
    after 0x5CC60001 (twoWith { Config.default with shamtMode := .full } 0xFFFFFFFD#32 0#32) r3pc =
      some (0#32, 1#32) := by decide

/-- V-MEM-1 -/
theorem test_ldImm : after 0x75840001 ((two 0x100#32 0#32).setRamCell 0x101#32 0xDEAD#32) (·.reg 6#4) = some 0xDEAD#32 := by
  decide
/-- V-MEM-4: the base register is the destination. -/
theorem test_ldImm_base : after 0x74440000 ((two 0x100#32 0#32).setRamCell 0x100#32 0x77#32) (·.reg 1#4) = some 0x77#32 := by
  decide
/-- V-MEM-7 -/
theorem test_ldReg : after 0x70C48000 ((two 0x100#32 2#32).setRamCell 0x102#32 0xAB#32) r3pc = some (0xAB#32, 1#32) := by
  decide
/-- V-MEM-2 -/
theorem test_stImm : after 0x7D040001 ((two 0x100#32 0#32).setReg 4#4 0x1234#32) (·.ramCell 0x101#32) = some 0x1234#32 := by
  decide
/-- V-MEM-10: the next cell keeps every bit. -/
theorem test_stImm_neighbour :
    after 0x7CC40000 (((two 0x100#32 0#32).setReg 3#4 0xFFFFFFFF#32).setRamCell 0x101#32 0x11223344#32)
      (fun t => (t.ramCell 0x100#32, t.ramCell 0x101#32)) = some (0xFFFFFFFF#32, 0x11223344#32) := by decide
/-- V-MEM-6: the address wraps. -/
theorem test_stReg : after 0x78C48000 ((two 0xFFFFFFFF#32 0x101#32).setReg 3#4 9#32) (·.ramCell 0x100#32) = some 9#32 := by
  decide
/-- V-MEM-8 -/
theorem test_ld_unmapped : stops 0x74C40000 (two 0x00020000#32 0#32) = some (.inl .unmappedAddress) := by decide

/-- The reset state at a pc, with flags. -/
def atPc (pc : Word) (eq gt : Bool) : State := (State.reset.setFlags eq gt).jump pc

/-- V-BR-1, V-BR-2 -/
theorem test_beq : after 0x80000003 (atPc 0x10#32 true false) (·.pc) = some 0x13#32 ∧
    after 0x80000003 (atPc 0x10#32 false true) (·.pc) = some 0x11#32 := by decide
/-- V-BR-3, V-BR-4 -/
theorem test_bgt : after 0x8FFFFFFE (atPc 0x10#32 false true) (·.pc) = some 0x0E#32 ∧
    after 0x8FFFFFFE (atPc 0x10#32 true false) (·.pc) = some 0x11#32 := by decide
/-- V-BR-5, V-BR-6 -/
theorem test_b : after 0x90000000 (atPc 0x10#32 false false) (·.pc) = some 0x10#32 ∧
    after 0x97FFFFFF (atPc 0#32 false false) (·.pc) = some 0xFFFFFFFF#32 := by decide
/-- V-BR-9 -/
theorem test_call : after 0x98000005 (atPc 0x10#32 false false) (fun t => (t.reg 15#4, t.pc)) = some (0x11#32, 0x15#32) := by
  decide
/-- V-BR-10 -/
theorem test_ret : after 0xA0000000 (State.reset.setReg 15#4 0x11#32) (·.pc) = some 0x11#32 := by decide

/-- The configuration with `PC_STEP = 4`. -/
def byFour : Config := { Config.default with pcStep := .four }

/-- V-BR-11, V-BR-12, V-BR-13 -/
theorem test_pc_step_four :
    after 0x80000003 (((State.resetWith byFour).setFlags true false).jump 0x40#32) (·.pc) = some 0x4C#32 ∧
    after 0x98000005 ((State.resetWith byFour).jump 0x40#32) (fun t => (t.reg 15#4, t.pc)) = some (0x44#32, 0x54#32) ∧
    stops 0xA0000000 ((State.resetWith byFour).setReg 15#4 0x46#32) = some (.inl .misalignedPc) := by decide

/-- V-SYS-1 -/
theorem test_nop : after 0x68000000 (atPc 7#32 false true) (fun t => (t.pc, flags t)) = some (8#32, (false, true)) := by decide
/-- V-SYS-2 -/
theorem test_hlt : after 0x10000000 (atPc 7#32 false false) (fun t => (t.pc, t.halted)) = some (7#32, true) := by decide

/-- The reset state with `csr[5]`, `r12` and `r13` set. -/
def handler (c : BitVec 22) (r12 r13 : Word) : State :=
  ({ State.reset with csr5 := c }.setReg 12#4 r12).setReg 13#4 r13

/-- What an `iret` restores. -/
def restored (t : State) : Word × (Bool × Bool) × Word := (t.pc, flags t, t.csrRead .intcon)

/-- V-SYS-3, V-SYS-4 -/
theorem test_iret_high :
    after 0xA8000000 (handler 0x080001#22 0x40#32 2#32) restored = some (0x40#32, (false, true), 0x00030001#32) ∧
    after 0xA8000000 (handler 0x2C0202#22 0x82#32 1#32) restored = some (0x82#32, (true, false), 0x00260202#32) := by
  decide
/-- V-SYS-5, V-SYS-6 -/
theorem test_iret_low :
    after 0xA8000000 (handler 0x260202#22 0x10#32 0#32) restored = some (0x10#32, (false, false), 0x00030202#32) ∧
    after 0xA8000000 (handler 0x030000#22 0x10#32 3#32) restored = some (0x10#32, (true, true), 0x00030000#32) := by
  decide

/-- The reset state with `csr[5]` set. -/
def intcon (c : BitVec 22) : State := { State.reset with csr5 := c }

/-- V-CSR-1, V-CSR-2 -/
theorem test_csrReadLo : after 0x4D710001 (intcon 0x030001#22) flags = some (false, true) ∧
    after 0x4D710001 (intcon 0x030000#22) flags = some (true, false) := by decide
/-- V-INT-7: `low_pending` is computed; no entry while GIEH and GIEL are 0. -/
theorem test_csrReadHi : after 0x4D720010 (intcon 0x080302#22) flags = some (false, true) := by decide
/-- V-CSR-5, V-CSR-7 -/
theorem test_csrSetLo : after 0x4D69000A (intcon 0x030000#22) (·.csrRead .intcon) = some 0x0003000A#32 ∧
    after 0x4D690001 (intcon 0x030002#22) (·.csrRead .intcon) = some 0x00030002#32 := by decide
/-- V-CSR-6, V-CSR-8 -/
theorem test_csrSetHi : after 0x4D6A0003 (intcon 0x000200#22) (·.csrRead .intcon) = some 0x00030200#32 ∧
    after 0x4D6A0008 (intcon 0x030000#22) (·.csrRead .intcon) = some 0x00030000#32 := by decide
/-- V-CSR-10, V-CSR-11 (the second at a boundary that does not sample the pins). -/
theorem test_csrClearLo : after 0x4D64FFFE (intcon 0x080001#22) (·.csrRead .intcon) = some 0x00080000#32 ∧
    after 0x4D647FFF { intcon 0x03C000#22 with inputs := [⟨[], false⟩] } (·.csrRead .intcon) = some 0x00034000#32 := by
  decide
/-- V-CSR-12, V-CSR-14 -/
theorem test_csrClearHi : after 0x4D66FFFC (intcon 0x030000#22) (·.csrRead .intcon) = some 0#32 ∧
    after 0x4D66FFF7 (intcon 0x080000#22) (·.csrRead .intcon) = some 0x00080000#32 := by decide
/-- V-CSR-13: the other polarity. -/
theorem test_csrClear_select_mask :
    after 0x4D640001 { State.resetWith { Config.default with clearPolarity := .selectMask } with csr5 := 0x080001#22 }
      (·.csrRead .intcon) = some 0x00080000#32 := by decide
/-- V-CSR-15, V-CSR-16 -/
theorem test_csrSet_uart_watchdog : after 0x4CE900E6 State.reset (·.csrRead .uart) = some 0xE6#32 ∧
    after 0x4D290007 State.reset (·.csrRead .watchdog) = some 7#32 := by decide
/-- V-CSR-9, V-CSR-21, V-CSR-22 -/
theorem test_csr_stops : stops 0x4D6A0040 State.reset = some (.inr .reservedCsrBit) ∧
    stops 0x4C290001 State.reset = some (.inl .undefinedCsr) ∧
    stops 0x4E690001 State.reset = some (.inl .undefinedCsr) := by decide

/-! ### Interrupts and the watchdog -/

/-- The state of an interrupt vector: `csr[5]`, pc and flags. -/
def vector (c : BitVec 22) (pc : Word) (eq gt : Bool) : State :=
  ({ State.reset with csr5 := c }.setFlags eq gt).jump pc

/-- `r12`, `r13`, `csr[5]` as read, pc. -/
def entered (t : State) : Word × Word × Word × Word := (t.reg 12#4, t.reg 13#4, t.csrRead .intcon, t.pc)

/-- V-INT-1 -/
theorem test_high_entry :
    after 0x68000000 (vector 0x030003#22 3#32 false true) entered = some (3#32, 2#32, 0x00080003#32, 0x20#32) := by decide
/-- V-INT-4 -/
theorem test_low_entry :
    after 0x68000000 (vector 0x030300#22 0x10#32 true false) entered = some (0x10#32, 1#32, 0x00160300#32, 0x80#32) := by
  decide
/-- V-INT-6 -/
theorem test_nested_entry :
    after 0x68000000 (vector 0x060303#22 0x82#32 false false) entered = some (0x82#32, 0#32, 0x003C0303#32, 0x20#32) := by
  decide
/-- V-INT-2, V-INT-3: no entry, the `nop` runs. -/
theorem test_no_entry : after 0x68000000 (vector 0x030001#22 3#32 false false) (·.pc) = some 4#32 ∧
    after 0x68000000 (vector 0x010003#22 3#32 false false) (·.pc) = some 4#32 := by decide
/-- V-INT-1 with the flag set by the environment at the boundary; V-INT-8: a halted machine takes no entry. -/
theorem test_event_sets_flag :
    after 0x68000000 { vector 0x030002#22 3#32 false true with inputs := [⟨[.setFlag .eInt0], true⟩] } entered =
      some (3#32, 2#32, 0x00080003#32, 0x20#32) ∧
    stops 0x68000000 { vector 0x030003#22 3#32 false true with halted := true } = some (.inl .halted) := by decide

/-! ### Devices -/

/-- S7: the PWM control word. -/
theorem test_store_pwm :
    after 0x7C840000 (two 0x00010000#32 0x31AC000A#32) (fun t => (t.pwm.pr, t.pwm.dutyMaster, t.pwm.reg)) =
      some (0x800#12, 0x635#12, 0x31AC000A#32) := by decide
/-- S10: the timer is loaded, and one tick with TIMER_ON overflows it (R243, R244). -/
theorem test_store_timer :
    after 0x7C840000 (two 0x00010002#32 0xFFFFFFFF#32) (·.timer.count) = some 0xFFFF#16 ∧
    (({ State.reset with tmcon := 0x40#7 }.storeTimer 0xFFFF#32).timerClock .internal).csr5.getLsbD 14 = true := by decide
/-- S11: TRIS, then the pins. -/
theorem test_store_gpio :
    after 0x7CC40000 ((two 0x00010001#32 0#32).setReg 3#4 0x0000FF00#32) (·.gpio.tris) = some 0xFF00#16 ∧
    after 0x74C40000 { two 0x00010011#32 0#32 with gpio := ⟨0xFF00#16, 0xF0F0#16, 0#16, 0x5A5A#16, 0#16⟩ }
      (·.gpio.latch) = some 0x5AF0#16 := by decide
/-- S8: the UART takes the word, TXIF drops, four bytes are to be sent (R222). -/
theorem test_store_uart :
    after 0x7C840000 { two 0x00010003#32 0xFFFFF0F0#32 with csr3 := 0xE6#8 }
      (fun t => (t.uart.txreg, t.uart.txif, t.uart.txPending, t.uartBytes)) = some (0xFFFFF0F0#32, false, true, 4) := by decide
/-- S9: the SPI starts a transfer and is busy; the next access waits (R232). -/
theorem test_store_spi :
    after 0x7C840000 { two 0x00010004#32 0xFFFFF0F0#32 with csr2 := 0xE0#11 }
      (fun t => (t.spi.buffer, t.spiReady, t.pc)) = some (0xFFFFF0F0#32, false, 1#32) ∧
    after 0x74C40000 (two 0x00010004#32 0#32 |>.storeSpi 1#32) (fun t => (t.pc, t.bus)) = some (0#32, .access) := by decide
/-- R236: the older word first. -/
theorem test_load_spi :
    after 0x74C40000 { two 0x00010004#32 0#32 with
        csr2 := 0x600#11, spi := ⟨.idle, false, false, 0#32, 0#32, 7#32, 5#32, 0, false, false, false⟩ }
      (·.reg 3#4) = some 5#32 := by decide

/-! ### Witnesses: a state and operands that meet each statement's hypotheses, each clause at a boundary -/

/-- A `nop` at the pc of the reset state. -/
def ready : State := State.reset.withFetchWord 32 0x68000000

theorem witness_RefusedWordsAreNamed :
    22 ≤ (0xB0000000#32).toNat / 2 ^ 27 ∧ (0xA8000000#32).toNat / 2 ^ 27 = 21 ∧
    ((0x78070001#32).toNat / 2 ^ 27 = 15 ∧ (0x78070001#32).getLsbD 26 = false) ∧
    ((0x7C070001#32).toNat / 2 ^ 27 = 15 ∧ (0x7C070001#32).getLsbD 26 = true) ∧
    ((0x4C830001#32).toNat / 2 ^ 27 = 9 ∧ (0x4C830001#32).getLsbD 26 = true ∧ (0x4C830001#32).getLsbD 21 = false) ∧
    ((0x4D790001#32).toNat / 2 ^ 27 = 9 ∧ (0x4D790001#32).getLsbD 26 = true ∧ (0x4D790001#32).getLsbD 21 = true) := by
  decide

theorem witness_ImmediateModifierValues :
    (0x04470001#32).getLsbD 26 = true ∧ (0x04470001#32).getLsbD 17 = true ∧ (0x04470001#32).getLsbD 16 = true := by decide

theorem witness_StepRunsDecodedInstruction :
    ReachesFetch ready ∧ ready.atBoundary.fetchBytes = .ok [0x00#8, 0x00#8, 0x00#8, 0x68#8] ∧
    decodeBytes ready.cfg.unusedBits [0x00#8, 0x00#8, 0x00#8, 0x68#8] = .ok .nop ∧ ready.inputs = [] := by
  refine ⟨?_, rfl, rfl, rfl⟩
  unfold ReachesFetch
  decide

/-- The last word of the instruction memory. -/
theorem witness_FetchReadsPlacedWord :
    pcAligned Config.default 0xFFFF#32 = true ∧ wordIndex Config.default 0xFFFF#32 < Config.default.imemWords ∧
    decode .ignore 0x68000000#32 = .ok .nop := ⟨rfl, by decide, rfl⟩

/-- A misaligned pc; the first word outside the instruction memory; a word no loader placed; a refused word. -/
theorem witness_FetchFaultsAreNamed :
    (ReachesFetch ((State.resetWith byFour).jump 2#32) ∧
      ((State.resetWith byFour).jump 2#32).atBoundary.pc.toNat % byFour.pcStep.toNat ≠ 0) ∧
    (ReachesFetch (State.reset.jump 0x10000#32) ∧ State.reset.cfg.imemWords ≤ (0x10000#32).toNat / 1) ∧
    (ReachesFetch State.reset ∧ State.reset.imem.wordLanes 0 = none) ∧
    (ReachesFetch (State.reset.withFetchWord 32 0xB0000000) ∧
      (State.reset.withFetchWord 32 0xB0000000).imem.wordLanes 0 = some (wordBytes 0xB0000000#32) ∧
      decode .ignore 0xB0000000#32 = .error .reservedOpcode) := by
  refine ⟨⟨?_, by decide⟩, ⟨?_, by decide⟩, ⟨?_, by decide⟩, ?_, by decide, rfl⟩
  all_goals unfold ReachesFetch; decide

theorem witness_CompareFlags : exec (.cmpReg 1#4 2#4) State.reset = .next (State.reset.setFlags true false).advance := rfl

/-- The first and the last cell of data memory. -/
theorem witness_LoadFromDataMemory :
    LoadsAt State.reset (.ldImm 3#4 1#4 .signed 0#16) 3#4 0#32 ∧ InDataMemory Config.default 0#32 ∧
    LoadsAt (State.reset.setReg 1#4 0xFFFF#32) (.ldReg 3#4 1#4 2#4) 3#4 0xFFFF#32 ∧
    InDataMemory Config.default 0xFFFF#32 := by
  refine ⟨.imm .., ⟨by decide, by decide, by decide⟩, .reg .., ⟨by decide, by decide, by decide⟩⟩

theorem witness_StoreToDataMemory :
    StoresAt (State.reset.setReg 1#4 0xFFFF#32) (.stReg 3#4 1#4 2#4) 0#32 0xFFFF#32 ∧
    InDataMemory Config.default 0xFFFF#32 ∧ NotGuarded (State.reset.setReg 1#4 0xFFFF#32) 0xFFFF#32 :=
  ⟨.reg .., ⟨by decide, by decide, by decide⟩, by unfold NotGuarded; decide⟩

/-- The configuration with the guard of R55, and a program of one word at address 0. -/
def guarded : State := (State.resetWith { Config.default with codeStores := .guarded }).withFetchWord 32 0x68000000

/-- The addresses next to each range of the map. -/
theorem witness_AccessFaults_unmapped :
    (∀ a ∈ [0x00010005#32, 0x00010010#32, 0x00010012#32, 0xFFFFFFFF#32], ¬ IsDevice a ∧
      ¬(Config.default.ramBase.toNat ≤ a.toNat ∧ a.toNat < Config.default.ramBase.toNat + Config.default.ramWords)) ∧
    LoadsAt (State.reset.setReg 1#4 0x00010005#32) (.ldImm 3#4 1#4 .signed 0#16) 3#4 0x00010005#32 :=
  ⟨by simp [IsDevice, Config.default], .imm ..⟩

/-- The guarded machine with an instruction word placed at the PWM's address, and `r1` holding that address. -/
def guardedDevice : State :=
  { guarded with imem := guarded.imem.writeWord 0x10000 0x68000000#32 }.setReg 1#4 0x00010000#32

/-- A store into the program under the guard: in data memory, and at a device. -/
theorem witness_AccessFaults_guard :
    (StoresAt guarded (.stReg 3#4 1#4 2#4) 0#32 0#32 ∧ InDataMemory guarded.cfg 0#32 ∧
      guarded.cfg.codeStores = .guarded ∧ guarded.isCode 0#32 = true) ∧
    (StoresAt guardedDevice (.stReg 3#4 1#4 2#4) 0#32 0x00010000#32 ∧ IsDevice 0x00010000#32 ∧
      guardedDevice.cfg.codeStores = .guarded ∧ guardedDevice.isCode 0x00010000#32 = true) :=
  ⟨⟨.reg .., ⟨by decide, by decide, by decide⟩, rfl, rfl⟩, ⟨.reg .., .inl rfl, rfl, by decide⟩⟩

/-- `r1` holds the address of a device and `r2` is 0. -/
def pointing (a : Word) : State := State.reset.setReg 1#4 a

/-- A load of `r3` from, and a store of `r3` to, the address in `r1`. -/
theorem witness_pointing (a : Word) :
    LoadsAt (pointing a) (.ldImm 3#4 1#4 .signed 0#16) 3#4 (a + 0#32) ∧
    StoresAt (pointing a) (.stImm 3#4 1#4 .signed 0#16) 0#32 (a + 0#32) := ⟨.imm .., .imm ..⟩

/-- The machine with a transmitting UART, whose address is in `r1`. -/
def sending : State := { pointing 0x00010003#32 with csr3 := 0x22#8 }.storeUart 1#32

/-- A busy UART; an SPI about to begin; an SPI in a transfer. -/
theorem witness_BusyDeviceMakesAccessWait :
    (LoadsAt sending (.ldImm 3#4 1#4 .signed 0#16) 3#4 0x00010003#32 ∧ sending.uart.txif = false ∧
      sending.csr3.getLsbD 5 = true ∧ sending.csr3.getLsbD 1 = true) ∧
    (StoresAt ((pointing 0x00010004#32).storeSpi 1#32) (.stImm 3#4 1#4 .signed 0#16) 0#32 0x00010004#32 ∧
      NotGuarded ((pointing 0x00010004#32).storeSpi 1#32) 0x00010004#32 ∧
      ((pointing 0x00010004#32).storeSpi 1#32).spi.startCommand = true) ∧
    ({ State.reset.spi with fsm := SpiFsm.ending } : Spi).fsm ≠ .idle :=
  ⟨⟨.imm .., rfl, rfl, rfl⟩, ⟨.imm .., by unfold NotGuarded; decide, rfl⟩, by decide⟩

theorem witness_LoadWithoutReadPathCompletes :
    LoadsAt (pointing 0x00010000#32) (.ldImm 3#4 1#4 .signed 0#16) 3#4 0x00010000#32 ∧
    LoadsAt (pointing 0x00010001#32) (.ldImm 3#4 1#4 .signed 0#16) 3#4 0x00010001#32 ∧
    LoadsAt (pointing 0x00010002#32) (.ldImm 3#4 1#4 .signed 0#16) 3#4 0x00010002#32 := ⟨.imm .., .imm .., .imm ..⟩

/-- A value with TE = PE = 0, and one with both 1. -/
theorem witness_StoreToPwm :
    StoresAt (pointing 0x00010000#32) (.stImm 3#4 1#4 .signed 0#16) 0#32 0x00010000#32 ∧
    StoresAt ((pointing 0x00010000#32).setReg 3#4 3#32) (.stImm 3#4 1#4 .signed 0#16) 3#32 0x00010000#32 ∧
    NotGuarded (pointing 0x00010000#32) 0x00010000#32 ∧ (0#32).getLsbD 0 = false ∧ (0#32).getLsbD 1 = false ∧
    (3#32).getLsbD 0 = true ∧ (3#32).getLsbD 1 = true :=
  ⟨.imm .., .imm .., by unfold NotGuarded; decide, rfl, rfl, rfl, rfl⟩

theorem witness_GpioTrisAccess :
    StoresAt (pointing 0x00010001#32) (.stImm 3#4 1#4 .signed 0#16) 0#32 0x00010001#32 ∧
    NotGuarded (pointing 0x00010001#32) 0x00010001#32 ∧
    LoadsAt (pointing 0x00010001#32) (.ldImm 3#4 1#4 .signed 0#16) 3#4 0x00010001#32 :=
  ⟨.imm .., by unfold NotGuarded; decide, .imm ..⟩

/-- Pin 0 is an output, pin 15 an input. -/
theorem witness_StoreToGpioPort :
    StoresAt (pointing 0x00010011#32) (.stImm 3#4 1#4 .signed 0#16) 0#32 0x00010011#32 ∧
    NotGuarded (pointing 0x00010011#32) 0x00010011#32 ∧
    (0x8000#16).getLsbD 0 = false ∧ (0x8000#16).getLsbD 15 = true := ⟨.imm .., by unfold NotGuarded; decide, rfl, rfl⟩

theorem witness_LoadFromGpioPort :
    LoadsAt (pointing 0x00010011#32) (.ldImm 3#4 1#4 .signed 0#16) 3#4 0x00010011#32 := .imm ..

theorem witness_StoreToTimer :
    StoresAt (pointing 0x00010002#32) (.stImm 3#4 1#4 .signed 0#16) 0#32 0x00010002#32 ∧
    NotGuarded (pointing 0x00010002#32) 0x00010002#32 := ⟨.imm .., by unfold NotGuarded; decide⟩

/-- TIMER_ON 0 and 1; the tick before the overflow and the tick of it. -/
theorem witness_TimerOverflows :
    Config.default.tmconCsr = some 6#4 ∧ (0x00#7).getLsbD 5 = false ∧ (0x00#7).getLsbD 3 = false ∧
    (0x00#7).getLsbD 6 = false ∧ (0x40#7).getLsbD 5 = false ∧ (0x40#7).getLsbD 3 = false ∧ (0x40#7).getLsbD 6 = true ∧
    State.reset.timer.intFlag = false ∧ 0xFFFF < 0x10000 - State.reset.timer.count.toNat ∧
    0x10000 - State.reset.timer.count.toNat ≤ 0x10000 := by decide

/-- The reset machine's PWM, with a control word, PR and TMR. -/
def pwmAt (w : Word) (pr tmr : BitVec 12) : State :=
  { State.reset with pwm := { State.reset.pwm with reg := w, pr := pr, tmr := tmr } }

/-- PR at its largest and its smallest value; TE = 0. -/
theorem witness_PwmPeriodIsPrPlusOne :
    ((pwmAt 3#32 0xFFF#12 0xFFF#12).pwm.reg.getLsbD 0 = true ∧ (pwmAt 3#32 0xFFF#12 0xFFF#12).pwm.reg.getLsbD 1 = true ∧
      (pwmAt 3#32 0xFFF#12 0xFFF#12).pwm.tmr = (pwmAt 3#32 0xFFF#12 0xFFF#12).pwm.pr ∧
      4095 ≤ (pwmAt 3#32 0xFFF#12 0xFFF#12).pwm.pr.toNat ∧
      ¬(4095 = (pwmAt 3#32 0xFFF#12 0xFFF#12).pwm.dutyMaster.toNat ∧ 4095 = (pwmAt 3#32 0xFFF#12 0xFFF#12).pwm.pr.toNat)) ∧
    (pwmAt 3#32 0#12 0#12).pwm.tmr = (pwmAt 3#32 0#12 0#12).pwm.pr ∧ 0 ≤ (pwmAt 3#32 0#12 0#12).pwm.pr.toNat ∧
    (pwmAt 1#32 0#12 5#12).pwm.reg.getLsbD 1 = false := by decide

/-- The machine with the UART's control register and TXIF set. -/
def uartAt (c : BitVec 8) (txif : Bool) : State :=
  { pointing 0x00010003#32 with csr3 := c, uart := { State.reset.uart with txif := txif } }

/-- Transmission enabled; SPEN off with TXIF set; TXEN off with TXIF clear. -/
theorem witness_StoreToReadyUart :
    (StoresAt (uartAt 0x22#8 true) (.stImm 3#4 1#4 .signed 0#16) 0#32 0x00010003#32 ∧
      NotGuarded (uartAt 0x22#8 true) 0x00010003#32 ∧ UartReady (uartAt 0x22#8 true) ∧
      (uartAt 0x22#8 true).csr3.getLsbD 5 = true ∧ (uartAt 0x22#8 true).csr3.getLsbD 1 = true) ∧
    (UartReady (uartAt 0x02#8 true) ∧ (uartAt 0x02#8 true).csr3.getLsbD 5 = false ∧ (uartAt 0x02#8 true).uart.txif = true) ∧
    (UartReady (uartAt 0x20#8 false) ∧ (uartAt 0x20#8 false).csr3.getLsbD 1 = false ∧
      (uartAt 0x20#8 false).uart.txif = false) := by
  refine ⟨⟨.imm .., ?_, .inl rfl, rfl, rfl⟩, ⟨.inl rfl, rfl, rfl⟩, ⟨.inr (.inr rfl), rfl, rfl⟩⟩
  unfold NotGuarded
  decide

/-- One byte and four bytes. -/
theorem witness_UartSendsFrame :
    ((uartAt 0x22#8 true).csr3.getLsbD 5 = true ∧ (uartAt 0x22#8 true).csr3.getLsbD 1 = true ∧
      (uartAt 0x22#8 true).uart.tsrBits = 0 ∧ 1 = (uartAt 0x22#8 true).csr3.toNat / 64 + 1) ∧
    ((uartAt 0xE2#8 true).csr3.getLsbD 5 = true ∧ (uartAt 0xE2#8 true).csr3.getLsbD 1 = true ∧
      (uartAt 0xE2#8 true).uart.tsrBits = 0 ∧ 4 = (uartAt 0xE2#8 true).csr3.toNat / 64 + 1) := by decide

/-- A waiting receiver; one whose line the pull-up holds. -/
theorem witness_UartReceivesByte :
    ((uartAt 0x24#8 true).csr3.getLsbD 5 = true ∧ (uartAt 0x24#8 true).csr3.getLsbD 2 = true ∧
      (uartAt 0x24#8 true).uart.rxCount = 0 ∧ (uartAt 0x24#8 true).uart.rxif = false ∧
      (uartAt 0x24#8 true).uart.pullupEn = false) ∧
    (({ State.reset.uart with pullupEn := true } : Uart).rxCount = 0 ∧
      ({ State.reset.uart with pullupEn := true } : Uart).pullupEn = true) := by decide

theorem witness_LoadFromReadyUart :
    LoadsAt (pointing 0x00010003#32) (.ldImm 3#4 1#4 .signed 0#16) 3#4 0x00010003#32 ∧
    UartReady (pointing 0x00010003#32) ∧ UartReady (uartAt 0x20#8 false) ∧
    ({ State.reset.uart with rxif := true } : Uart).rxif = true :=
  ⟨.imm .., .inl rfl, .inr (.inr rfl), rfl⟩

/-- A master SPI with a transfer about to begin, at either phase. -/
def spiMasterAt (phase : Bool) : State :=
  { State.reset with csr2 := 0xE0#11, spi := { State.reset.spi with startCommand := true, phase := phase } }

/-- A slave SPI in mode 0 whose `cs` is asserted, 8 bits. -/
def spiSlave : State :=
  { State.reset with csr2 := 0x00#11, spi := { State.reset.spi with slaveEnable := true, phase := true } }

/-- A ready SPI; a busy one; one that leaves IDLE in master mode at once, and one at the second edge. -/
theorem witness_StoreStartsSpiTransfer :
    StoresAt (pointing 0x00010004#32) (.stImm 3#4 1#4 .signed 0#16) 0#32 0x00010004#32 ∧
    NotGuarded (pointing 0x00010004#32) 0x00010004#32 ∧ (pointing 0x00010004#32).spiReady = true ∧
    StoresAt ((pointing 0x00010004#32).storeSpi 1#32) (.stImm 3#4 1#4 .signed 0#16) 0#32 0x00010004#32 ∧
    NotGuarded ((pointing 0x00010004#32).storeSpi 1#32) 0x00010004#32 ∧
    ((pointing 0x00010004#32).storeSpi 1#32).spiReady = false ∧
    ((spiMasterAt true).csr2.getLsbD 7 = true ∧ (spiMasterAt true).spi.fsm = .idle ∧
      (spiMasterAt true).spi.startCommand = true ∧ (spiMasterAt true).spi.phase = true ∧
      ((spiMasterAt true).spiClock false).spi.fsm ≠ .idle) ∧
    (spiMasterAt false).spi.phase = false :=
  ⟨.imm .., by unfold NotGuarded; decide, rfl, .imm .., by unfold NotGuarded; decide, rfl, by decide, rfl⟩

/-- A master transfer of 32 bits; a slave transfer of 8. -/
theorem witness_SpiTransferReceivesWord :
    ((spiMasterAt true).spi.fsm = .idle ∧ (spiMasterAt true).spi.phase = true ∧ 32 = (spiMasterAt true).spiBits ∧
      (spiMasterAt true).csr2.getLsbD 7 = true ∧ (spiMasterAt true).spi.startCommand = true ∧
      (spiMasterAt true).csr2.getLsbD 5 = true ∧ (spiMasterAt true).csr2.getLsbD 6 = true) ∧
    (spiSlave.spi.fsm = .idle ∧ spiSlave.spi.phase = true ∧ 8 = spiSlave.spiBits ∧ spiSlave.csr2.getLsbD 7 = false ∧
      spiSlave.spi.slaveEnable = true ∧ spiSlave.csr2.getLsbD 0 = false ∧ spiSlave.csr2.getLsbD 1 = false) := by decide

/-- SCLK is `clock ^ CPOL ^ CPHA` in master mode and high-impedance in slave mode; a slave in another mode than 0
stands still (R238). -/
theorem test_spi_clock_modes :
    (spiMasterAt true).spiSclk = some false ∧ ({ spiMasterAt true with csr2 := 0xE1#11 } : State).spiSclk = some true ∧
    ({ spiMasterAt true with csr2 := 0xE3#11 } : State).spiSclk = some false ∧ spiSlave.spiSclk = none ∧
    (spiSlave.spiClock true).spi.fsm = .assignCs ∧
    (({ spiSlave with csr2 := 0x01#11 } : State).spiClock true).spi.fsm = .idle := by decide

/-- Both buffers unread; one; none. -/
theorem witness_LoadFromReadySpi :
    LoadsAt (pointing 0x00010004#32) (.ldImm 3#4 1#4 .signed 0#16) 3#4 0x00010004#32 ∧
    (pointing 0x00010004#32).spiReady = true ∧ (0x600#11).getLsbD 10 = true ∧
    ((0x200#11).getLsbD 10 = false ∧ (0x200#11).getLsbD 9 = true) ∧ (0x000#11).getLsbD 9 = false :=
  ⟨.imm .., rfl, rfl, ⟨rfl, rfl⟩, rfl⟩

/-- An aligned and a misaligned link register under `PC_STEP = 4`. -/
theorem witness_CallAndRet :
    (((State.resetWith byFour).setReg 15#4 0x44#32).reg 15#4).toNat % byFour.pcStep.toNat = 0 ∧
    (((State.resetWith byFour).setReg 15#4 0x45#32).reg 15#4).toNat % byFour.pcStep.toNat ≠ 0 := by decide

/-- A halted machine with EN = 0, and one with EN = 1. -/
theorem witness_HltNopAndHaltedSteps :
    State.reset.halt.halted = true ∧ State.reset.halt.watchdogEnabled = false ∧
    ({ State.reset.halt with csr4 := 0x08#5 } : State).halted = true ∧
    ({ State.reset.halt with csr4 := 0x08#5 } : State).watchdogEnabled = true := by decide

/-- A misaligned `r12`; a high handler, nested and not; a low handler; no handler. -/
theorem witness_IretRestores :
    ((({ State.resetWith byFour with csr5 := 0#22 } : State).setReg 12#4 3#32).reg 12#4).toNat % byFour.pcStep.toNat ≠ 0 ∧
    ((handler 0x2C0202#22 0x82#32 1#32).reg 12#4).toNat % Config.default.pcStep.toNat = 0 ∧
    (handler 0x2C0202#22 0x82#32 1#32).highActive = true ∧ (handler 0x080001#22 0x40#32 2#32).highActive = true ∧
    ((handler 0x260202#22 0x10#32 0#32).highActive = false ∧ (handler 0x260202#22 0x10#32 0#32).lowActive = true) ∧
    ((handler 0x030000#22 0x10#32 3#32).highActive = false ∧ (handler 0x030000#22 0x10#32 3#32).lowActive = false) := by
  decide

/-- The last existing bit and the first reserved one; a mask of no bit. -/
theorem witness_CsrReadTestsOneBit :
    (csrAt Config.default (Instr.csrIndex Config.default (csrReadOf .upper 5#4 (BitVec.twoPow 16 5))) = some .intcon ∧
      5 + 16 < csrBits .intcon) ∧
    (csrAt Config.default (Instr.csrIndex Config.default (csrReadOf .upper 5#4 (BitVec.twoPow 16 6))) = some .intcon ∧
      csrBits .intcon ≤ 6 + 16) ∧
    (csrAt Config.default (Instr.csrIndex Config.default (csrReadOf .lower 1#4 0#16)) = some .i2c ∧
      ∀ j < 16, 0#16 ≠ BitVec.twoPow 16 j) := by decide

/-- A mask of the last existing bit, and one of the first reserved bit. -/
theorem witness_CsrSetSetsRwBits :
    (csrAt Config.default (Instr.csrIndex Config.default (csrSetOf .upper 5#4 0x0020#16)) = some .intcon ∧
      ∀ j < 32, maskBit .upper 0x0020#16 j = true → j < csrBits .intcon) ∧
    (csrAt Config.default (Instr.csrIndex Config.default (csrSetOf .upper 5#4 0x0040#16)) = some .intcon ∧
      maskBit .upper 0x0040#16 22 = true ∧ csrBits .intcon ≤ 22) := by decide

theorem witness_CsrClearClearsMarkedBits :
    csrAt Config.default (Instr.csrIndex Config.default (csrClearOf .lower 4#4 0x0001#16)) = some .watchdog := by decide

/-- The configuration in which the index of a `csr mov` is read from bits 3:0 of the word. -/
def lowSelect : Config := { Config.default with csrSelect := ⟨3#5, 2#5, 1#5, 0#5⟩ }

/-- The indices next to the defined ones, and the index of TMCON; another `CSR_SELECT`. -/
theorem witness_UndefinedCsrFaults :
    Config.default.csrSelect = ⟨25#5, 24#5, 23#5, 22#5⟩ ∧ Config.default.tmconCsr = some 6#4 ∧ 6 ≤ (6#4).toNat ∧
    ((csrSetOf .lower 0#4 1#16).csrIndex Config.default = 0#4 ∧ Config.default.tmconCsr ≠ some 0#4) ∧
    (6 ≤ ((csrReadOf .upper 7#4 1#16).csrIndex Config.default).toNat ∧ Config.default.tmconCsr ≠ some 7#4) ∧
    (6 ≤ ((csrClearOf .lower 15#4 1#16).csrIndex Config.default).toNat ∧ Config.default.tmconCsr ≠ some 15#4) ∧
    (csrSetOf .lower 0#4 5#16).csrIndex lowSelect = 5#4 := by decide

theorem witness_HighInterruptEntry :
    (intcon 0x030003#22).atBoundary.resetDue = false ∧ (intcon 0x030003#22).halted = false ∧
    (intcon 0x030003#22).bus = .idle ∧ (intcon 0x030003#22).boundary.samples = true ∧
    (intcon 0x030003#22).atBoundary.pinHigh = true ∧ (intcon 0x030003#22).atBoundary.gieh = true := by decide

theorem witness_LowInterruptEntry :
    (intcon 0x030300#22).atBoundary.resetDue = false ∧ (intcon 0x030300#22).halted = false ∧
    (intcon 0x030300#22).bus = .idle ∧ (intcon 0x030300#22).boundary.samples = true ∧
    (intcon 0x030300#22).atBoundary.pinLow = true ∧ (intcon 0x030300#22).atBoundary.giel = true := by decide

/-- A valid request behind a closed gate; a bus that waits. -/
theorem witness_GlobalEnablesGateEntries :
    (intcon 0x010003#22).pinHigh = true ∧ (intcon 0x010003#22).gieh = false ∧ (intcon 0x010003#22).pinLow = false ∧
    (State.reset.setBus .access).bus ≠ .idle := by decide

theorem witness_EntryThenIretRestores :
    (intcon 0x030003#22).cfg.wf ∧ (intcon 0x030003#22).PcAligned ∧ (intcon 0x030003#22).highActive = false ∧
    (intcon 0x030003#22).lowActive = false ∧ (intcon 0x030003#22).nested = false ∧ (intcon 0x030003#22).gieh = true ∧
    (intcon 0x030003#22).giel = true := by
  refine ⟨by decide, ?_, by decide⟩
  unfold State.PcAligned
  decide

theorem witness_DisabledWatchdogNeverResets :
    ({ State.reset with wdt := ⟨5, 6, 7, 0#32, true⟩ } : State).watchdogEnabled = false := rfl

theorem witness_WatchdogFireResets :
    ({ State.reset.halt with csr4 := 0x08#5, inputs := [⟨[] ++ [.watchdogFire], false⟩] } : State).watchdogEnabled = true ∧
    ({ State.reset.halt with csr4 := 0x08#5, inputs := [⟨[] ++ [.watchdogFire], false⟩] } : State).inputs =
      ⟨[] ++ [.watchdogFire], false⟩ :: [] := by decide

/-- A branch to itself under an enabled watchdog. -/
def looping : State := { State.reset with csr4 := 0x08#5 }.withFetchWord 32 0x90000000

theorem witness_WatchdogFireResets_hang : looping.watchdogEnabled = true ∧ StalledFor 1 looping :=
  ⟨rfl, { looping with wdt := { looping.wdt with divider := 0, count := 1 } }, rfl, rfl, rfl, trivial⟩

theorem witness_WatchdogTimeout :
    (({ State.reset with csr4 := 0x0F#5 } : State).watchdogEnabled = true ∧ State.reset.wdt.divider = 0 ∧
      State.reset.wdt.count = 0 ∧ State.reset.wdt.pcRst = false ∧ 4096 * 2 ^ ((0x0F#5).toNat % 8) = 524288) ∧
    (({ State.reset.jump 1#32 with csr4 := 0x08#5 } : State).watchdogEnabled = true ∧
      (State.reset.jump 1#32).pc ≠ (State.reset.jump 1#32).wdt.lastPc ∧ (State.reset.jump 1#32).wdt.activity = 0) := by decide

theorem witness_OnlyThreeInstructionsWriteFlags :
    writesFlags .nop = false ∧ exec .nop State.reset = .next State.reset.advance := ⟨rfl, rfl⟩

theorem witness_OnlyBranchesReadFlags : readsFlags (.cmpReg 1#4 2#4) = false ∧ readsFlags .iret = false := ⟨rfl, rfl⟩

theorem witness_OnlyLoadStoreTouchDataSpace :
    reachesData .hlt = false ∧ exec .hlt State.reset = .next State.reset.halt := ⟨rfl, rfl⟩

/-- An instruction that writes no CSR, a source whose flag is 1, and a load and a store that are not the SPI's. -/
theorem witness_OnlyCsrMovWritesCsrs :
    (writesCsr .nop = false ∧ exec .nop (intcon 0x030001#22) = .next (intcon 0x030001#22).advance) ∧
    (intcon 0x030001#22).advance.csr5.getLsbD 0 = true ∧
    (LoadsAt State.reset (.ldReg 3#4 1#4 2#4) 3#4 0#32 ∧ 0#32 ≠ 0x00010004#32) ∧
    StoresAt State.reset (.stReg 3#4 1#4 2#4) 0#32 0#32 := ⟨⟨rfl, rfl⟩, rfl, ⟨.reg .., by decide⟩, .reg ..⟩

/-- For NoStepChangesProgram, StepKeepsMemoryCanonical, StepKeepsPcAligned and StepKeepsInterruptStatus: a step of the
`nop` from a state that meets every invariant. -/
theorem witness_step_invariants :
    step ready = .next ready.advance ∧ ready.cfg.wf ∧ ready.MemoryWf ∧ ready.PcAligned ∧ ready.Bit20Clear ∧
    ready.watchdogEnabled = false ∧ ready.NestedInLow := by
  refine ⟨rfl, by decide, ⟨by decide, by decide⟩, ?_, ?_, rfl, ?_⟩
  · unfold State.PcAligned; decide
  · unfold State.Bit20Clear; decide
  · unfold State.NestedInLow; decide

end Sys2Proof.Tests
end

section
/-!
PROOFS. The immediate modifier (spec/30_encoding.md R64, R72): the value of a 16-bit immediate under each modifier, and
the words a starred opcode refuses.
-/

namespace Sys2Proof.Machine

/-! ### The value of an immediate (R64) -/

theorem toInt_imm32_signed (v : BitVec 16) : (imm32 .signed v).toInt = v.toInt :=
  BitVec.toInt_signExtend_of_le (by omega)

theorem toNat_imm32_unsigned (v : BitVec 16) : (imm32 .unsigned v).toNat = v.toNat :=
  BitVec.toNat_setWidth_of_le (by omega)

theorem toNat_imm32_upper (v : BitVec 16) : (imm32 .upper v).toNat = v.toNat * 2 ^ 16 := by
  rw [imm32, BitVec.toNat_append, BitVec.toNat_ofNat, Nat.zero_mod, Nat.or_zero, Nat.shiftLeft_eq]

end Sys2Proof.Machine

namespace Sys2Proof

open Sys2Proof.Machine

/-! ### The words a starred opcode refuses (R72) -/

theorem immFlag_eq_one_iff (w : Word) : immFlag w = 1#1 ↔ w.getLsbD 26 = true := by
  have bit : (immFlag w).getLsbD 0 = w.getLsbD 26 := by simp [immFlag]
  rw [← bit]
  generalize immFlag w = b
  revert b
  decide

theorem modField_eq_three_iff (w : Word) : modField w = 0b11#2 ↔ w.getLsbD 17 = true ∧ w.getLsbD 16 = true := by
  have high : (modField w).getLsbD 1 = w.getLsbD 17 := by simp [modField]
  have low : (modField w).getLsbD 0 = w.getLsbD 16 := by simp [modField]
  rw [← high, ← low]
  generalize modField w = m
  revert m
  decide

/-- A starred opcode refuses the modifier exactly in the immediate form with code 11 (R72). -/
theorem decodeStarred_eq_reservedModifier_iff (w : Word) (f : Reg → Reg → Reg → Instr)
    (g : Reg → Reg → Modifier → BitVec 16 → Instr) :
    decodeStarred w f g = .error .reservedModifier ↔ immFlag w = 1#1 ∧ modField w = 0b11#2 := by
  rw [← Modifier.ofBits_eq_none]
  rcases BitVec.eq_zero_or_eq_one (immFlag w) with hreg | himm
  · simp [decodeStarred, hreg]
  · cases hm : Modifier.ofBits (modField w) <;> simp [decodeStarred, himm, hm]

/-- Settles O4: each row of R64's table is a lemma above, and code 11 is what a starred opcode refuses. -/
theorem immediateModifierValues : Obligations.ImmediateModifierValues := by
  unfold Obligations.ImmediateModifierValues
  refine ⟨fun v => ⟨toInt_imm32_signed v, toNat_imm32_unsigned v, toNat_imm32_upper v⟩,
    Modifier.ofBits_toBits .signed, Modifier.ofBits_toBits .unsigned, Modifier.ofBits_toBits .upper, ?_⟩
  intro w f g himm h17 h16
  exact (decodeStarred_eq_reservedModifier_iff w f g).2
    ⟨(immFlag_eq_one_iff w).2 himm, (modField_eq_three_iff w).2 ⟨h17, h16⟩⟩

end Sys2Proof
end

section
/-!
PROOFS. The `csr mov` read (spec/44_system.md R134, R135): its word, the masks that aim at exactly one bit, the bits of a
CSR that exist, and what the read answers for each kind of mask.
-/

namespace Sys2Proof

/-! ### The word of a `csr mov` (R67) -/

/-- The word is its fields, each shifted to its place. -/
theorem encodeCsr_eq_or (k : BitVec 4) (ops : BitVec 3) (m : BitVec 2) (v : BitVec 16) :
    encodeCsr k ops m v = 0x4C000000#32 ||| (k.setWidth 32 <<< 22) ||| 0x00200000#32 |||
      (ops.setWidth 32 <<< 18) ||| (m.setWidth 32 <<< 16) ||| v.setWidth 32 := by
  rw [← BitVec.setWidth_eq (encodeCsr k ops m v)]
  simp only [encodeCsr, BitVec.setWidth_append_eq_shiftLeft_setWidth_or, BitVec.shiftLeft_or_distrib,
    ← BitVec.shiftLeft_add]
  simp only [Nat.reduceAdd, BitVec.reduceSetWidth, BitVec.reduceHShiftLeft, BitVec.reduceOr]

end Sys2Proof

namespace Sys2Proof.Machine

/-! ### Masks that aim at one bit (R134, R135) -/

theorem oneHotWord_iff_isPowerOfTwo (p : Word) : oneHotWord p = true ↔ p.toNat.isPowerOfTwo := by
  rw [← Nat.ne_zero_and_sub_one_eq_zero_iff_isPowerOfTwo]
  have zero : p = 0#32 ↔ p.toNat = 0 := BitVec.toNat_eq
  by_cases hp : p.toNat = 0
  · simp [oneHotWord, zero, hp]
  · have pred : (p - 1#32).toNat = p.toNat - 1 := by
      rw [BitVec.toNat_sub_of_le (by bv_omega), BitVec.toNat_ofNat]
    simp [oneHotWord, zero, hp, BitVec.toNat_eq, pred]

theorem oneHotWord_iff (p : Word) : oneHotWord p = true ↔ ∃ i < 32, p = BitVec.twoPow 32 i := by
  rw [oneHotWord_iff_isPowerOfTwo]
  constructor
  · rintro ⟨i, hi⟩
    have lt : i < 32 := (Nat.pow_lt_pow_iff_right (by decide)).1 (hi ▸ p.isLt)
    exact ⟨i, lt, BitVec.eq_of_toNat_eq (hi.trans (BitVec.toNat_twoPow_of_lt lt).symm)⟩
  · rintro ⟨i, hi, rfl⟩
    exact ⟨i, BitVec.toNat_twoPow_of_lt hi⟩

/-- Where bit `j` of a mask stands in the CSR (R134). -/
def placedBit (h : Half) (j : Nat) : Nat := if h = .upper then j + 16 else j

theorem placedBit_lt {h : Half} {j : Nat} (hj : j < 16) : placedBit h j < 32 := by
  unfold placedBit
  split <;> omega

theorem placeMask_injective (h : Half) : Function.Injective (placeMask h) := by
  intro v w hvw
  cases h with
  | lower => exact (BitVec.append_right_inj _).1 hvw
  | upper => exact (BitVec.append_left_inj _).1 hvw

theorem placeMask_twoPow (h : Half) {j : Nat} (hj : j < 16) :
    placeMask h (BitVec.twoPow 16 j) = BitVec.twoPow 32 (placedBit h j) := by
  apply BitVec.eq_of_getLsbD_eq
  intro i hi
  cases h with
  | lower => grind [placeMask, placedBit]
  | upper => grind [placeMask, placedBit]

/-- A placed mask has bits in its half alone. -/
theorem exists_placedBit_of_getLsbD {h : Half} {v : BitVec 16} {i : Nat} (hi : (placeMask h v).getLsbD i = true) :
    ∃ j < 16, i = placedBit h j := by
  cases h with
  | lower =>
    rw [placeMask, BitVec.getLsbD_append] at hi
    exact ⟨i, by grind, rfl⟩
  | upper =>
    rw [placeMask, BitVec.getLsbD_append] at hi
    have high : 16 ≤ i := by grind
    exact ⟨i - 16, by grind [BitVec.lt_of_getLsbD], (Nat.sub_add_cancel high).symm⟩

theorem oneHotWord_placeMask_iff (h : Half) (v : BitVec 16) :
    oneHotWord (placeMask h v) = true ↔ ∃ j < 16, v = BitVec.twoPow 16 j := by
  rw [oneHotWord_iff]
  constructor
  · rintro ⟨i, hi, hp⟩
    obtain ⟨j, hj, rfl⟩ : ∃ j < 16, i = placedBit h j :=
      exists_placedBit_of_getLsbD (v := v) (by simp [hp, hi])
    exact ⟨j, hj, placeMask_injective h (hp.trans (placeMask_twoPow h hj).symm)⟩
  · rintro ⟨j, hj, rfl⟩
    exact ⟨placedBit h j, placedBit_lt hj, placeMask_twoPow h hj⟩

/-- The test of one bit of a word by an AND with its mask. -/
theorem and_twoPow_bne_zero (w : Word) {i : Nat} (hi : i < 32) : (w &&& BitVec.twoPow 32 i != 0#32) = w.getLsbD i := by
  have nonzero : BitVec.twoPow 32 i ≠ 0#32 := by
    intro h
    simpa [BitVec.getLsbD_twoPow, hi] using congrArg (·.getLsbD i) h
  cases hw : w.getLsbD i <;> simp [BitVec.and_twoPow, hw, nonzero]

end Sys2Proof.Machine

namespace Sys2Proof

open Sys2Proof.Machine Sys2Proof.Claims

/-- The bits of a CSR that exist are its low `csrBits` (R19, R241). -/
theorem getLsbD_present (c : Csr) (i : Nat) : c.present.getLsbD i = decide (i < csrBits c) := by
  have low : c.present = (BitVec.allOnes (csrBits c)).setWidth 32 := by cases c <;> rfl
  have fits : csrBits c ≤ 32 := by cases c <;> decide
  rw [low, BitVec.getLsbD_setWidth, BitVec.getLsbD_allOnes]
  grind

/-- A mask aims at an existing bit, or at a reserved one (R25). -/
theorem twoPow_and_present_eq_zero_iff (c : Csr) {i : Nat} (hi : i < 32) :
    BitVec.twoPow 32 i &&& c.present = 0#32 ↔ csrBits c ≤ i := by
  have bit := and_twoPow_bne_zero c.present hi
  rw [getLsbD_present, BitVec.and_comm] at bit
  grind

/-! ### What a read answers (R135) -/

section
variable {s : State} {k : BitVec 4} {h : Half} {c : Csr}

theorem csrTest_existing_bit {j : Nat} (hj : j < 16) (hc : csrAt s.cfg k = some c) (hp : placedBit h j < csrBits c) :
    s.csrTest k h (BitVec.twoPow 16 j) = .next (s.setFlags (!(s.csrRead c).getLsbD (placedBit h j))
      ((s.csrRead c).getLsbD (placedBit h j))).advance := by
  have place := placeMask_twoPow h hj
  have one := (oneHotWord_placeMask_iff h _).2 ⟨j, hj, rfl⟩
  have aims : placeMask h (BitVec.twoPow 16 j) &&& c.present ≠ 0#32 := by
    rw [place, ne_eq, twoPow_and_present_eq_zero_iff c (placedBit_lt hj)]
    omega
  rw [State.csrTest_oneHot hc one aims, place, and_twoPow_bne_zero _ (placedBit_lt hj), testedEq, testedGt]

/-- A reserved bit reads as a free value (R25, U18). -/
theorem csrTest_reserved_bit {j : Nat} (hj : j < 16) (hc : csrAt s.cfg k = some c) (hp : csrBits c ≤ placedBit h j) :
    s.csrTest k h (BitVec.twoPow 16 j) =
      .next (s.drawn.setFlags (!s.free.getLsbD 0) (s.free.getLsbD 0)).advance := by
  have one := (oneHotWord_placeMask_iff h _).2 ⟨j, hj, rfl⟩
  have misses : placeMask h (BitVec.twoPow 16 j) &&& c.present = 0#32 := by
    rwa [placeMask_twoPow h hj, twoPow_and_present_eq_zero_iff c (placedBit_lt hj)]
  simp [State.csrTest, hc, one, misses, testedEq, testedGt]

/-- A mask of no bit or several leaves both flags free (U7). -/
theorem csrTest_of_not_oneHot {v : BitVec 16} (hc : csrAt s.cfg k = some c) (hv : ∀ j < 16, v ≠ BitVec.twoPow 16 j) :
    s.csrTest k h v = .next (s.drawn.setFlags (s.free.getLsbD 0) (s.free.getLsbD 1)).advance := by
  have many : ¬ oneHotWord (placeMask h v) = true := by
    rw [oneHotWord_placeMask_iff]
    rintro ⟨j, hj, hvj⟩
    exact hv j hj hvj
  simp [State.csrTest, hc, many]

end

theorem exec_csrReadOf (h : Half) (k : BitVec 4) (v : BitVec 16) (s : State) :
    exec (csrReadOf h k v) s = s.csrTest (Instr.csrIndex s.cfg (csrReadOf h k v)) h v := by
  cases h <;> rfl

theorem encode_csrReadOf (h : Half) (k : BitVec 4) (v : BitVec 16) : encode (csrReadOf h k v) =
    0x4C000000#32 ||| (k.setWidth 32 <<< 22) ||| 0x00200000#32 ||| 0x00100000#32 |||
      (if h = .upper then 0x00020000#32 else 0x00010000#32) ||| v.setWidth 32 := by
  cases h <;> exact encodeCsr_eq_or ..

/-- Settles O38: its word, and the three kinds of mask by the lemma of each. -/
theorem csrReadTestsOneBit : Obligations.CsrReadTestsOneBit := by
  unfold Obligations.CsrReadTestsOneBit
  refine ⟨encode_csrReadOf, fun s k h c => ⟨?existing, ?reserved, ?other⟩⟩
  case existing =>
    intro j hj p hc hp
    exact ⟨_, (exec_csrReadOf ..).trans (csrTest_existing_bit hj hc hp), rfl, rfl, rfl, rfl, fun _ => rfl⟩
  case reserved =>
    intro j hj p hc hp
    exact ⟨_, (exec_csrReadOf ..).trans (csrTest_reserved_bit hj hc hp), rfl, rfl, rfl⟩
  case other =>
    intro v hc hv
    exact ⟨_, (exec_csrReadOf ..).trans (csrTest_of_not_oneHot hc hv), rfl, rfl⟩

end Sys2Proof
end

section
/-!
PROOFS. The interrupt pins (spec/60_exceptions.md R152 to R154): what `any_high` and `any_low` ask of the eight sources,
and the pins as the two of them.
-/

namespace Sys2Proof.Machine

@[simp] theorem mem_allSources (i : Source) : i ∈ allSources := by
  cases i <;> decide

theorem State.anyHigh_iff (s : State) :
    s.anyHigh = true ↔ ∃ i, i ∈ s.cfg.highGroup ∧ s.validSource i = true := by
  simp [State.anyHigh]

theorem State.anyLow_iff (s : State) :
    s.anyLow = true ↔ ∃ i, i ∉ s.cfg.highGroup ∧ s.validSource i = true := by
  simp [State.anyLow]

theorem State.pinLow_iff (s : State) : s.pinLow = true ↔ s.anyLow = true ∧ ¬ s.pinHigh = true := by
  simp [State.pinLow, State.pinHigh]

/-- Only one of the pins can be high at a time (R154). -/
theorem State.not_pinHigh_and_pinLow (s : State) : ¬(s.pinHigh = true ∧ s.pinLow = true) := by
  rintro ⟨high, low⟩
  exact (s.pinLow_iff.1 low).2 high

end Sys2Proof.Machine

namespace Sys2Proof

open Sys2Proof.Machine

/-- Settles O43: the bits of a source are those at twice its number (R24); the pins are `any_high`, and `any_low` masked by
it. -/
theorem interruptPins : Obligations.InterruptPins := by
  unfold Obligations.InterruptPins
  intro s
  refine ⟨rfl, rfl, rfl, rfl, rfl, rfl, rfl, rfl, s.anyHigh_iff, ?low, s.not_pinHigh_and_pinLow⟩
  case low => rw [s.pinLow_iff, s.anyLow_iff, State.pinHigh, s.anyHigh_iff]

end Sys2Proof
end

section
/-!
PROOFS. The decoder and the encoder are inverse to each other (spec/30_encoding.md sections 1 to 4): a word is the fields
of its format, an instruction's word has no unassigned bit set, and which words no format takes.
-/

namespace Sys2Proof

/-! ### A word is the fields of its format (R61, R67) -/

theorem append_regFields (w : Word) :
    opField w ++ immFlag w ++ rdField w ++ rs1Field w ++ rs2Field w ++ w.extractLsb' 0 14 = w := by
  apply BitVec.eq_of_getLsbD_eq
  intro i hi
  simp only [opField, immFlag, rdField, rs1Field, rs2Field, BitVec.getLsbD_append, BitVec.getLsbD_extractLsb']
  grind

theorem append_immFields (w : Word) :
    opField w ++ immFlag w ++ rdField w ++ rs1Field w ++ modField w ++ immField w = w := by
  apply BitVec.eq_of_getLsbD_eq
  intro i hi
  simp only [opField, immFlag, rdField, rs1Field, modField, immField, BitVec.getLsbD_append, BitVec.getLsbD_extractLsb']
  grind

theorem append_branchFields (w : Word) : opField w ++ offsetField w = w := by
  apply BitVec.eq_of_getLsbD_eq
  intro i hi
  simp only [opField, offsetField, BitVec.getLsbD_append, BitVec.getLsbD_extractLsb']
  grind

/-- In the CSR form the `rs1` field is `csr_mode` and the operation bits (R67). -/
theorem append_csrModeFields (w : Word) : csrModeField w ++ csrOpsField w = rs1Field w := by
  apply BitVec.eq_of_getLsbD_eq
  intro i hi
  simp only [csrModeField, csrOpsField, rs1Field, BitVec.getLsbD_append, BitVec.getLsbD_extractLsb']
  grind

theorem append_csrFields (w : Word) : opField w ++ immFlag w ++ rdField w ++ csrModeField w ++ csrOpsField w ++
    modField w ++ immField w = w := by
  apply BitVec.eq_of_getLsbD_eq
  intro i hi
  simp only [opField, immFlag, rdField, csrModeField, csrOpsField, modField, immField, BitVec.getLsbD_append,
    BitVec.getLsbD_extractLsb']
  grind

theorem Modifier.toBits_of_ofBits {b : BitVec 2} {m : Modifier} (h : Modifier.ofBits b = some m) : m.toBits = b := by
  revert b m
  decide

/-- A field inside the mask of unassigned bits is 0 where the word meets the mask nowhere. -/
theorem extractLsb'_eq_zero_of_and {w m : Word} {a n : Nat} (h : w &&& m = 0#32)
    (hm : m.extractLsb' a n = BitVec.allOnes n) : w.extractLsb' a n = 0#n := by
  have meet : w.extractLsb' a n &&& m.extractLsb' a n = 0#n := by
    rw [← BitVec.extractLsb'_and, h, BitVec.extractLsb'_zero]
  rwa [hm, BitVec.and_allOnes] at meet

/-! ### Encode, then decode -/

theorem decodeFields_encode (i : Instr) : decodeFields (encode i) = .ok i := by
  cases i with
  | movImm => simp [decodeFields, encode, decodeMov, csrModeField_encodeImm, decodeStarred_encodeImm]
  | _ => simp [decodeFields, encode, decodeMov, decodeCsr, decodeStarred_encodeReg, decodeStarred_encodeImm]

theorem encodeReg_and_eq_zero {op : BitVec 5} {rd rs1 rs2 a b : BitVec 4} (hd : rd &&& a = 0#4) (h1 : rs1 &&& b = 0#4) :
    encodeReg op rd rs1 rs2 &&& (0#5 ++ 0#1 ++ a ++ b ++ 0#4 ++ 0x3FFF#14) = 0#32 := by
  have fields : op ++ 0#1 ++ rd ++ rs1 ++ rs2 ++ 0#14 &&& 0#5 ++ 0#1 ++ a ++ b ++ 0#4 ++ 0x3FFF#14 = 0#_ := by
    simp only [BitVec.and_append, hd, h1, BitVec.and_zero, BitVec.zero_and, BitVec.zero_append_zero]
  exact fields

theorem encodeImm_and_eq_zero {op : BitVec 5} {rd rs1 a b : BitVec 4} {m : Modifier} {v : BitVec 16}
    (hd : rd &&& a = 0#4) (h1 : rs1 &&& b = 0#4) :
    encodeImm op rd rs1 m v &&& (0#5 ++ 0#1 ++ a ++ b ++ 0#2 ++ 0#16) = 0#32 := by
  have fields : op ++ 1#1 ++ rd ++ rs1 ++ m.toBits ++ v &&& 0#5 ++ 0#1 ++ a ++ b ++ 0#2 ++ 0#16 = 0#_ := by
    simp only [BitVec.and_append, hd, h1, BitVec.and_zero, BitVec.zero_append_zero]
  exact fields

theorem encodeBare_and_eq_zero (op : BitVec 5) : encodeBare op &&& (0#5 ++ 0x7FFFFFF#27) = 0#32 := by
  have fields : op ++ 0#27 &&& 0#5 ++ 0x7FFFFFF#27 = 0#_ := by
    simp only [BitVec.and_append, BitVec.and_zero, BitVec.zero_and, BitVec.zero_append_zero]
  exact fields

/-- The encoder writes 0 in every bit no format assigns (R86). -/
theorem encode_and_unusedMask (i : Instr) : encode i &&& i.unusedMask = 0#32 := by
  cases i with
  | addReg | subReg | xorReg | aslReg | andReg | orReg | lslReg | lsrReg | asrReg | ldReg | stReg =>
    exact encodeReg_and_eq_zero (a := 0#4) (b := 0#4) BitVec.and_zero BitVec.and_zero
  | cmpReg => exact encodeReg_and_eq_zero (a := 15#4) (b := 0#4) BitVec.zero_and BitVec.and_zero
  | cmpImm => exact encodeImm_and_eq_zero (a := 15#4) (b := 0#4) BitVec.zero_and BitVec.and_zero
  | notReg | movReg => exact encodeReg_and_eq_zero (a := 0#4) (b := 15#4) BitVec.and_zero BitVec.zero_and
  | notImm => exact encodeImm_and_eq_zero (a := 0#4) (b := 15#4) BitVec.and_zero BitVec.zero_and
  | movImm => exact encodeImm_and_eq_zero (a := 0#4) (b := 7#4) BitVec.and_zero BitVec.zero_and
  | hlt | nop | ret | iret => exact encodeBare_and_eq_zero _
  | _ => exact BitVec.and_zero

/-- Settles O1: the decoder reads every field back, and the encoder leaves nothing for the policy to refuse. -/
theorem decodeEncodeAgree : Obligations.DecodeEncodeAgree := by
  unfold Obligations.DecodeEncodeAgree
  intro p i
  cases p <;> simp [decode, decodeFields_encode, encode_and_unusedMask]

/-! ### Decode, then encode -/

section
variable {w : Word} {i : Instr}

theorem decodeStarred_eq_ok_iff {f : Reg → Reg → Reg → Instr} {g : Reg → Reg → Modifier → BitVec 16 → Instr} :
    decodeStarred w f g = .ok i ↔
      (immFlag w = 0#1 ∧ i = f (rdField w) (rs1Field w) (rs2Field w)) ∨
      (immFlag w = 1#1 ∧ ∃ m, Modifier.ofBits (modField w) = some m ∧ i = g (rdField w) (rs1Field w) m (immField w)) := by
  rcases BitVec.eq_zero_or_eq_one (immFlag w) with hreg | himm
  · simp [decodeStarred, hreg, eq_comm]
  · cases hm : Modifier.ofBits (modField w) <;> simp [decodeStarred, himm, hm, eq_comm]

theorem opField_eq_ofNat {n : Nat} (h : (opField w).toNat = n) : opField w = BitVec.ofNat 5 n := by
  rw [← h, BitVec.ofNat_toNat, BitVec.setWidth_eq]

theorem encodeReg_of_fields (hI : immFlag w = 0#1) (hlow : w.extractLsb' 0 14 = 0#14) :
    encodeReg (opField w) (rdField w) (rs1Field w) (rs2Field w) = w := by
  rw [encodeReg, ← hI, ← hlow, append_regFields]

theorem encodeImm_of_fields {m : Modifier} (hI : immFlag w = 1#1) (hm : Modifier.ofBits (modField w) = some m) :
    encodeImm (opField w) (rdField w) (rs1Field w) m (immField w) = w := by
  rw [encodeImm, ← hI, Modifier.toBits_of_ofBits hm, append_immFields]

theorem encodeBranch_of_fields : encodeBranch (opField w) (offsetField w) = w := append_branchFields w

theorem encodeBare_of_fields (h : offsetField w = 0#27) : encodeBare (opField w) = w := by
  rw [encodeBare, ← h, append_branchFields]

theorem encodeCsr_of_fields (hop : opField w = 0b01001#5) (hI : immFlag w = 1#1) (hmode : csrModeField w = 1#1) :
    encodeCsr (rdField w) (csrOpsField w) (modField w) (immField w) = w := by
  have fields := append_csrFields w
  rwa [hop, hI, hmode] at fields

/-- A word of a starred opcode whose unassigned bits are 0 is the one word of what it decodes to. -/
theorem encode_of_decodeStarred {op : BitVec 5} {f : Reg → Reg → Reg → Instr}
    {g : Reg → Reg → Modifier → BitVec 16 → Instr} (hop : opField w = op)
    (hf : w &&& (f (rdField w) (rs1Field w) (rs2Field w)).unusedMask = 0#32 → w.extractLsb' 0 14 = 0#14 ∧
      encode (f (rdField w) (rs1Field w) (rs2Field w)) = encodeReg op (rdField w) (rs1Field w) (rs2Field w))
    (hg : ∀ m, w &&& (g (rdField w) (rs1Field w) m (immField w)).unusedMask = 0#32 →
      encode (g (rdField w) (rs1Field w) m (immField w)) = encodeImm op (rdField w) (rs1Field w) m (immField w))
    (hd : decodeStarred w f g = .ok i) (hu : w &&& i.unusedMask = 0#32) : encode i = w := by
  subst hop
  obtain ⟨hreg, rfl⟩ | ⟨himm, m, hm, rfl⟩ := decodeStarred_eq_ok_iff.1 hd
  · obtain ⟨low, he⟩ := hf hu
    rw [he, encodeReg_of_fields hreg low]
  · rw [hg m hu, encodeImm_of_fields himm hm]

/-- The same where the format assigns all three register fields. -/
theorem encode_of_decodeStarred_full {op : BitVec 5} {f : Reg → Reg → Reg → Instr}
    {g : Reg → Reg → Modifier → BitVec 16 → Instr} (hop : opField w = op)
    (hmask : ∀ rd rs1 rs2, (f rd rs1 rs2).unusedMask = 0x00003FFF#32)
    (hf : ∀ rd rs1 rs2, encode (f rd rs1 rs2) = encodeReg op rd rs1 rs2)
    (hg : ∀ rd rs1 m v, encode (g rd rs1 m v) = encodeImm op rd rs1 m v)
    (hd : decodeStarred w f g = .ok i) (hu : w &&& i.unusedMask = 0#32) : encode i = w :=
  encode_of_decodeStarred hop
    (fun h => ⟨extractLsb'_eq_zero_of_and (hmask .. ▸ h) rfl, hf ..⟩) (fun _ _ => hg ..) hd hu

theorem encode_of_decodeCsr (hop : opField w = 0b01001#5) (hI : immFlag w = 1#1) (hmode : csrModeField w = 1#1)
    (hd : decodeCsr w = .ok i) : encode i = w := by
  have word := encodeCsr_of_fields hop hI hmode
  rw [← BitVec.setWidth_eq (csrOpsField w), ← BitVec.setWidth_eq (modField w), ← BitVec.ofNat_toNat,
    ← BitVec.ofNat_toNat] at word
  unfold decodeCsr at hd
  split at hd
  case h_7 => cases hd
  all_goals
    next hops hmod =>
    cases hd
    rw [hops, hmod] at word
    exact word

theorem encode_of_decodeMov (hop : opField w = 0b01001#5) (hd : decodeMov w = .ok i) (hu : w &&& i.unusedMask = 0#32) :
    encode i = w := by
  unfold decodeMov at hd
  split at hd
  · next hcsr => exact encode_of_decodeCsr hop hcsr.1 hcsr.2 hd
  · next hcsr =>
    obtain ⟨hreg, rfl⟩ | ⟨himm, m, hm, rfl⟩ := decodeStarred_eq_ok_iff.1 hd
    · have hu : w &&& 0x003C3FFF#32 = 0#32 := hu
      have rs1 : rs1Field w = 0#4 := extractLsb'_eq_zero_of_and hu rfl
      have low : w.extractLsb' 0 14 = 0#14 := extractLsb'_eq_zero_of_and hu rfl
      have word := encodeReg_of_fields hreg low
      rwa [hop, rs1] at word
    · have hu : w &&& 0x001C0000#32 = 0#32 := hu
      have mode : csrModeField w = 0#1 :=
        (BitVec.eq_zero_or_eq_one _).resolve_right fun hmode => hcsr ⟨himm, hmode⟩
      have ops : csrOpsField w = 0#3 := extractLsb'_eq_zero_of_and hu rfl
      have rs1 : rs1Field w = 0#4 := by rw [← append_csrModeFields, mode, ops]; rfl
      have word := encodeImm_of_fields himm hm
      rwa [hop, rs1] at word

/-- A word whose unassigned bits are 0 is the one word of what it decodes to. -/
theorem encode_of_decodeFields (hd : decodeFields w = .ok i) (hu : w &&& i.unusedMask = 0#32) : encode i = w := by
  unfold decodeFields at hd
  split at hd
  case h_1 hop | h_2 hop | h_4 hop | h_5 hop | h_7 hop | h_8 hop | h_11 hop | h_12 hop | h_13 hop | h_15 hop | h_16 hop =>
    exact encode_of_decodeStarred_full (opField_eq_ofNat hop) (fun _ _ _ => rfl) (fun _ _ _ => rfl)
      (fun _ _ _ _ => rfl) hd hu
  case h_6 hop =>
    refine encode_of_decodeStarred (opField_eq_ofNat hop) (fun h => ?_) (fun m h => ?_) hd hu
    · have h : w &&& 0x03C03FFF#32 = 0#32 := h
      have rd : rdField w = 0#4 := extractLsb'_eq_zero_of_and h rfl
      exact ⟨extractLsb'_eq_zero_of_and h rfl, by rw [rd]; rfl⟩
    · have h : w &&& 0x03C00000#32 = 0#32 := h
      have rd : rdField w = 0#4 := extractLsb'_eq_zero_of_and h rfl
      rw [rd]; rfl
  case h_9 hop =>
    refine encode_of_decodeStarred (opField_eq_ofNat hop) (fun h => ?_) (fun m h => ?_) hd hu
    · have h : w &&& 0x003C3FFF#32 = 0#32 := h
      have rs1 : rs1Field w = 0#4 := extractLsb'_eq_zero_of_and h rfl
      exact ⟨extractLsb'_eq_zero_of_and h rfl, by rw [rs1]; rfl⟩
    · have h : w &&& 0x003C0000#32 = 0#32 := h
      have rs1 : rs1Field w = 0#4 := extractLsb'_eq_zero_of_and h rfl
      rw [rs1]; rfl
  case h_10 hop => exact encode_of_decodeMov (opField_eq_ofNat hop) hd hu
  case h_3 hop | h_14 hop | h_21 hop | h_22 hop =>
    cases hd
    have word := encodeBare_of_fields (extractLsb'_eq_zero_of_and (w := w) hu rfl)
    rwa [opField_eq_ofNat hop] at word
  case h_17 hop | h_18 hop | h_19 hop | h_20 hop =>
    cases hd
    have word := encodeBranch_of_fields (w := w)
    rwa [opField_eq_ofNat hop] at word
  case h_23 => cases hd

theorem decode_refuse_eq_ok_iff :
    decode .refuse w = .ok i ↔ decodeFields w = .ok i ∧ w &&& i.unusedMask = 0#32 := by
  cases hd : decodeFields w with
  | error e => simp [decode, hd]
  | ok j => 
    simp only [decode, hd]
    split
    · next hu => simpa using fun h => h ▸ hu
    · next hu =>
      simp only [Except.ok.injEq, reduceCtorEq, false_iff, not_and]
      rintro rfl
      exact hu

end

/-- Settles O2: one direction is the round trip above; the other says that a word is made of its fields. -/
theorem refusePolicyHasOneWord : Obligations.RefusePolicyHasOneWord := by
  unfold Obligations.RefusePolicyHasOneWord
  intro w i
  constructor
  · intro h
    obtain ⟨hd, hu⟩ := decode_refuse_eq_ok_iff.1 h
    exact (encode_of_decodeFields hd hu).symm
  · rintro rfl
    exact decodeEncodeAgree .refuse i


/-! ### The words no format takes (R71, R72, R138) -/

section
variable (w : Word)

theorem decode_ignore : decode .ignore w = decodeFields w := by
  cases hd : decodeFields w <;> simp [decode, hd]

theorem toNat_opField : (opField w).toNat = w.toNat / 2 ^ 27 := by
  rw [opField, BitVec.extractLsb'_toNat, Nat.shiftRight_eq_div_pow]
  omega

theorem toNat_modField : (modField w).toNat = w.toNat / 2 ^ 16 % 4 := by
  rw [modField, BitVec.extractLsb'_toNat, Nat.shiftRight_eq_div_pow]

theorem toNat_csrOpsField : (csrOpsField w).toNat = w.toNat / 2 ^ 18 % 8 := by
  rw [csrOpsField, BitVec.extractLsb'_toNat, Nat.shiftRight_eq_div_pow]

theorem csrModeField_eq_one_iff : csrModeField w = 1#1 ↔ w.getLsbD 21 = true := by
  have bit : (csrModeField w).getLsbD 0 = w.getLsbD 21 := by simp [csrModeField]
  rw [← bit]
  generalize csrModeField w = b
  revert b
  decide

theorem modField_eq_three_iff_toNat : modField w = 0b11#2 ↔ w.toNat / 2 ^ 16 % 4 = 3 := by
  rw [← toNat_modField, BitVec.toNat_eq]
  rfl

/-- A starred opcode has one way to refuse a word (R72). -/
theorem decodeStarred_eq_error_iff {f : Reg → Reg → Reg → Instr} {g : Reg → Reg → Modifier → BitVec 16 → Instr}
    {e : DecodeError} : decodeStarred w f g = .error e ↔
      e = .reservedModifier ∧ w.getLsbD 26 = true ∧ w.toNat / 2 ^ 16 % 4 = 3 := by
  constructor
  · intro h
    have he : e = .reservedModifier := by
      unfold decodeStarred at h
      split at h
      · cases h
      · split at h <;> cases h
        rfl
    subst he
    rw [decodeStarred_eq_reservedModifier_iff, immFlag_eq_one_iff, modField_eq_three_iff_toNat] at h
    exact ⟨rfl, h⟩
  · rintro ⟨rfl, h⟩
    rwa [decodeStarred_eq_reservedModifier_iff, immFlag_eq_one_iff, modField_eq_three_iff_toNat]

/-- The CSR form has one way to refuse a word, exactly outside the six combinations of operation and half (R138). -/
theorem decodeCsr_eq_error_iff {e : DecodeError} : decodeCsr w = .error e ↔ e = .undefinedCsrOperation ∧
    w.toNat / 2 ^ 16 % 32 ∉ [0b10001, 0b10010, 0b01001, 0b01010, 0b00100, 0b00110] := by
  have code : w.toNat / 2 ^ 16 % 32 = (csrOpsField w).toNat * 4 + (modField w).toNat := by
    rw [toNat_csrOpsField, toNat_modField]
    omega
  rw [code]
  unfold decodeCsr
  split
  case h_7 none =>
    have hmod := (modField w).isLt
    have outside : (csrOpsField w).toNat * 4 + (modField w).toNat ∉
        [0b10001, 0b10010, 0b01001, 0b01010, 0b00100, 0b00110] := by
      simp only [List.mem_cons, List.not_mem_nil, or_false]
      grind
    exact ⟨fun h => by cases h; exact ⟨rfl, outside⟩, fun h => by rw [h.1]⟩
  all_goals
    next hops hmod => simp [hops, hmod]

/-- How `mov` refuses a word: as a starred opcode, or in the CSR form (R70). -/
theorem decodeMov_eq_error_iff {e : DecodeError} : decodeMov w = .error e ↔ w.getLsbD 26 = true ∧
    ((w.getLsbD 21 = false ∧ e = .reservedModifier ∧ w.toNat / 2 ^ 16 % 4 = 3) ∨
      (w.getLsbD 21 = true ∧ e = .undefinedCsrOperation ∧
        w.toNat / 2 ^ 16 % 32 ∉ [0b10001, 0b10010, 0b01001, 0b01010, 0b00100, 0b00110])) := by
  unfold decodeMov
  split
  · next h =>
    rw [immFlag_eq_one_iff, csrModeField_eq_one_iff] at h
    rw [decodeCsr_eq_error_iff]
    simp only [h, true_and, Bool.true_eq_false, false_and, false_or]
  · next h =>
    rw [immFlag_eq_one_iff, csrModeField_eq_one_iff, not_and, Bool.not_eq_true] at h
    rw [decodeStarred_eq_error_iff]
    grind

/-- The four kinds of opcode (R69, R70, R71). -/
theorem decodeFields_cases :
    (22 ≤ w.toNat / 2 ^ 27 ∧ decodeFields w = .error .reservedOpcode) ∨
    (w.toNat / 2 ^ 27 ∈ [2, 13, 16, 17, 18, 19, 20, 21] ∧ ∃ i, decodeFields w = .ok i) ∨
    (w.toNat / 2 ^ 27 ∈ [0, 1, 3, 4, 5, 6, 7, 8, 10, 11, 12, 14, 15] ∧ ∃ f g, decodeFields w = decodeStarred w f g) ∨
    (w.toNat / 2 ^ 27 = 9 ∧ decodeFields w = decodeMov w) := by
  rw [← toNat_opField]
  unfold decodeFields
  split
  case h_23 => exact .inl ⟨by grind, rfl⟩
  case h_10 hop => exact .inr (.inr (.inr ⟨hop, rfl⟩))
  case h_3 hop | h_14 hop | h_17 hop | h_18 hop | h_19 hop | h_20 hop | h_21 hop | h_22 hop =>
    exact .inr (.inl ⟨by simp [hop], _, rfl⟩)
  all_goals next hop => exact .inr (.inr (.inl ⟨by simp [hop], _, _, rfl⟩))

end

/-- Settles O3: by the kind of the opcode, each of which refuses in its own way. -/
theorem refusedWordsAreNamed : Obligations.RefusedWordsAreNamed := by
  unfold Obligations.RefusedWordsAreNamed
  intro w
  have kinds := decodeFields_cases w
  rw [decode_ignore]
  have apart : ∀ n : Nat,
      (n ∈ [2, 13, 16, 17, 18, 19, 20, 21] → n < 22 ∧ n ≠ 9 ∧ n ∉ [0, 1, 3, 4, 5, 6, 7, 8, 10, 11, 12, 14, 15]) ∧
      (n ∈ [0, 1, 3, 4, 5, 6, 7, 8, 10, 11, 12, 14, 15] → n < 22 ∧ n ≠ 9) := by
    intro n
    simp only [List.mem_cons, List.not_mem_nil, or_false]
    omega
  specialize apart (w.toNat / 2 ^ 27)
  generalize w.toNat / 2 ^ 27 = n at *
  generalize (n ∈ [2, 13, 16, 17, 18, 19, 20, 21]) = bare at *
  generalize (n ∈ [0, 1, 3, 4, 5, 6, 7, 8, 10, 11, 12, 14, 15]) = starred at *
  rcases kinds with ⟨hop, hd⟩ | ⟨hop, i, hd⟩ | ⟨hop, f, g, hd⟩ | ⟨hop, hd⟩
  · simp only [hd]; grind
  · simp only [hd]; grind
  · simp only [hd, ne_eq, decodeStarred_eq_error_iff]; grind
  · simp only [hd, ne_eq, decodeMov_eq_error_iff]
    generalize (w.toNat / 2 ^ 16 % 32 ∉ [0b10001, 0b10010, 0b01001, 0b01010, 0b00100, 0b00110]) = six at *
    grind

/-- Settles O5: each word is evaluated. -/
theorem specWordsDecode : Obligations.SpecWordsDecode :=
  ⟨rfl, rfl, rfl, rfl, rfl, rfl, rfl, rfl, rfl, rfl, rfl, rfl⟩

end Sys2Proof
end

section
/-!
PROOFS. What an instruction of each class can change (spec/10_state.md R17, spec/42_load_store.md R113, spec/20_memory.md
R40): one inversion lemma by class, and the rules over the whole machine that follow from it.
-/

namespace Sys2Proof.Machine

open Sys2Proof.Claims

/-! ### The fields a load or a store leaves alone (R44, R45) -/

section
variable (s : State) (d : Target) (a v : Word)

@[simp] theorem State.loadFrom_pc : (s.loadFrom d a).2.pc = s.pc := by rw [State.loadFrom_frame]
@[simp] theorem State.loadFrom_regs : (s.loadFrom d a).2.regs = s.regs := by rw [State.loadFrom_frame]
@[simp] theorem State.loadFrom_flagEq : (s.loadFrom d a).2.flagEq = s.flagEq := by rw [State.loadFrom_frame]
@[simp] theorem State.loadFrom_flagGt : (s.loadFrom d a).2.flagGt = s.flagGt := by rw [State.loadFrom_frame]
@[simp] theorem State.loadFrom_csr1 : (s.loadFrom d a).2.csr1 = s.csr1 := by rw [State.loadFrom_frame]
@[simp] theorem State.loadFrom_csr3 : (s.loadFrom d a).2.csr3 = s.csr3 := by rw [State.loadFrom_frame]
@[simp] theorem State.loadFrom_csr4 : (s.loadFrom d a).2.csr4 = s.csr4 := by rw [State.loadFrom_frame]
@[simp] theorem State.loadFrom_csr5 : (s.loadFrom d a).2.csr5 = s.csr5 := by rw [State.loadFrom_frame]
@[simp] theorem State.loadFrom_tmcon : (s.loadFrom d a).2.tmcon = s.tmcon := by rw [State.loadFrom_frame]
@[simp] theorem State.loadFrom_ram : (s.loadFrom d a).2.ram = s.ram := by rw [State.loadFrom_frame]
@[simp] theorem State.loadFrom_imem : (s.loadFrom d a).2.imem = s.imem := by rw [State.loadFrom_frame]
@[simp] theorem State.loadFrom_epoch : (s.loadFrom d a).2.epoch = s.epoch := by rw [State.loadFrom_frame]
@[simp] theorem State.loadFrom_cfg : (s.loadFrom d a).2.cfg = s.cfg := by rw [State.loadFrom_frame]

@[simp] theorem State.storeTo_pc : (s.storeTo d a v).pc = s.pc := by rw [State.storeTo_frame]
@[simp] theorem State.storeTo_regs : (s.storeTo d a v).regs = s.regs := by rw [State.storeTo_frame]
@[simp] theorem State.storeTo_flagEq : (s.storeTo d a v).flagEq = s.flagEq := by rw [State.storeTo_frame]
@[simp] theorem State.storeTo_flagGt : (s.storeTo d a v).flagGt = s.flagGt := by rw [State.storeTo_frame]
@[simp] theorem State.storeTo_csr1 : (s.storeTo d a v).csr1 = s.csr1 := by rw [State.storeTo_frame]
@[simp] theorem State.storeTo_csr2 : (s.storeTo d a v).csr2 = s.csr2 := by rw [State.storeTo_frame]
@[simp] theorem State.storeTo_csr3 : (s.storeTo d a v).csr3 = s.csr3 := by rw [State.storeTo_frame]
@[simp] theorem State.storeTo_csr4 : (s.storeTo d a v).csr4 = s.csr4 := by rw [State.storeTo_frame]
@[simp] theorem State.storeTo_csr5 : (s.storeTo d a v).csr5 = s.csr5 := by rw [State.storeTo_frame]
@[simp] theorem State.storeTo_tmcon : (s.storeTo d a v).tmcon = s.tmcon := by rw [State.storeTo_frame]
@[simp] theorem State.storeTo_imem : (s.storeTo d a v).imem = s.imem := by rw [State.storeTo_frame]
@[simp] theorem State.storeTo_epoch : (s.storeTo d a v).epoch = s.epoch := by rw [State.storeTo_frame]
@[simp] theorem State.storeTo_cfg : (s.storeTo d a v).cfg = s.cfg := by rw [State.storeTo_frame]

@[simp] theorem State.loadFrom_nextPc : (s.loadFrom d a).2.nextPc = s.nextPc := by
  simp [State.nextPc]

@[simp] theorem State.storeTo_nextPc : (s.storeTo d a v).nextPc = s.nextPc := by
  simp [State.nextPc]

end

/-! ### One equation for each case of a load or a store (R46, R53, R55) -/

section
variable {s : State} {rd : Reg} {d : Target} {a v : Word}

theorem State.load_of_unmapped (h : targetOf s.cfg a = none) : s.load rd a = .fault .unmappedAddress := by
  simp only [State.load, h]

theorem State.load_of_ready (h : targetOf s.cfg a = some d) (hr : s.ready d = true) :
    s.load rd a = .next (((s.loadFrom d a).2.setReg rd (s.loadFrom d a).1).setBus .idle).advance := by
  simp only [State.load, h, hr, apbRun_eq, if_true]

theorem State.load_of_busy (h : targetOf s.cfg a = some d) (hr : s.ready d = false) :
    s.load rd a = .next (s.setBus .access) := by
  simp only [State.load, h, hr, apbRun_eq, Bool.false_eq_true, if_false]

theorem State.store_of_unmapped (h : targetOf s.cfg a = none) : s.store a v = .fault .unmappedAddress := by
  simp only [State.store, h]

theorem State.store_of_guarded (h : targetOf s.cfg a = some d) (hg : s.cfg.codeStores = .guarded ∧ s.isCode a = true) :
    s.store a v = .fault .storeToCode := by
  simp only [State.store, h, hg.1, hg.2, and_self, if_true]

theorem State.store_of_ready (h : targetOf s.cfg a = some d) (hg : NotGuarded s a) (hr : s.ready d = true) :
    s.store a v = .next ((s.storeTo d a v).setBus .idle).advance := by
  simp only [State.store, h, if_neg hg, hr, apbRun_eq, if_true]

theorem State.store_of_busy (h : targetOf s.cfg a = some d) (hg : NotGuarded s a) (hr : s.ready d = false) :
    s.store a v = .next (s.setBus .access) := by
  simp only [State.store, h, if_neg hg, hr, apbRun_eq, Bool.false_eq_true, if_false]

/-- The older word first (R236). -/
theorem State.loadSpi_of_buf2 (h : s.spiBuf2 = true) : s.loadSpi =
    (s.spi.buffer2, { s.drawn with csr2 := setBit (setBit s.csr2 10 false) 8 (s.free.getLsbD 0) }) :=
  if_pos h

theorem State.loadSpi_of_buf1 (h2 : s.spiBuf2 = false) (h1 : s.spiBuf1 = true) : s.loadSpi =
    (s.spi.buffer1, { s.drawn with csr2 := setBit (setBit s.csr2 9 false) 8 (s.free.getLsbD 0) }) :=
  (if_neg (Bool.eq_false_iff.1 h2)).trans (if_pos h1)

theorem State.loadSpi_of_empty (h2 : s.spiBuf2 = false) (h1 : s.spiBuf1 = false) : s.loadSpi =
    (s.drawn.free, { s.drawn.drawn with csr2 := setBit s.csr2 8 (s.free.getLsbD 0) }) :=
  (if_neg (Bool.eq_false_iff.1 h2)).trans (if_neg (Bool.eq_false_iff.1 h1))

theorem State.storeUart_of_enabled (h : s.uartTxEnabled = true) : s.storeUart v =
    { s with uart := { s.uart with txreg := v, txif := false, txPending := true, txSent := 0 } } :=
  if_pos h

theorem State.storeUart_of_disabled (h : s.uartTxEnabled = false) (hx : s.uart.txif = true) : s.storeUart v =
    { s.drawn with uart := { s.uart with txreg := v, txif := s.free.getLsbD 0, txPending := false } } :=
  (if_neg (Bool.eq_false_iff.1 h)).trans (if_pos hx)

theorem State.storeUart_of_full (h : s.uartTxEnabled = false) (hx : s.uart.txif = false) : s.storeUart v = s :=
  (if_neg (Bool.eq_false_iff.1 h)).trans (if_neg (Bool.eq_false_iff.1 hx))

theorem execRet_of_aligned (h : pcAligned s.cfg (s.reg s.cfg.linkReg) = true) :
    execRet s = .next (s.jump (s.reg s.cfg.linkReg)) := if_pos h

theorem execRet_of_misaligned (h : pcAligned s.cfg (s.reg s.cfg.linkReg) = false) :
    execRet s = .fault .misalignedPc := if_neg (Bool.eq_false_iff.1 h)

theorem State.returnFromInterrupt_of_aligned (h : pcAligned s.cfg (s.reg 12#4) = true) : s.returnFromInterrupt =
    .next ((({ s with csr5 := csr5AfterReturn s.csr5 }).setFlags (unpackEq s.cfg.flagsLayout (s.reg 13#4))
      (unpackGt s.cfg.flagsLayout (s.reg 13#4))).jump (s.reg 12#4)) := if_pos h

theorem State.returnFromInterrupt_of_misaligned (h : pcAligned s.cfg (s.reg 12#4) = false) :
    s.returnFromInterrupt = .fault .misalignedPc := if_neg (Bool.eq_false_iff.1 h)

end

/-! ### What an interrupt entry leaves alone (R161, R162) -/

section
variable (s : State) (l : Level)

@[simp] theorem State.enterInterrupt_pc : (s.enterInterrupt l).pc = vectorOf s.cfg l := rfl
@[simp] theorem State.enterInterrupt_csr5 : (s.enterInterrupt l).csr5 = csr5AfterEntry l s.csr5 := rfl
@[simp] theorem State.enterInterrupt_ram : (s.enterInterrupt l).ram = s.ram := rfl
@[simp] theorem State.enterInterrupt_imem : (s.enterInterrupt l).imem = s.imem := rfl
@[simp] theorem State.enterInterrupt_epoch : (s.enterInterrupt l).epoch = s.epoch := rfl
@[simp] theorem State.enterInterrupt_cfg : (s.enterInterrupt l).cfg = s.cfg := rfl

end

/-! ### The classes -/

/-- The next states of an instruction by its class: what each class can change, and nothing else. -/
inductive ByClass (s : State) (i : Instr) (t : State) : Prop where
  /-- arithmetic, logic, move, shift, control transfer but `iret`, `hlt` and `nop` -/
  | plain (hf : writesFlags i = false) (hd : reachesData i = false) (hc : writesCsr i = false) (hi : i ≠ .iret)
      (frame : t = { s with regs := t.regs, pc := t.pc, halted := t.halted })
  /-- `cmp` and the `csr mov` read -/
  | test (hf : writesFlags i = true) (hd : reachesData i = false) (hc : writesCsr i = false) (hi : i ≠ .iret)
      (frame : t = { s with flagEq := t.flagEq, flagGt := t.flagGt, pc := t.pc, freeCount := t.freeCount })
  | iret (hi : i = .iret)
      (frame : t = { s with flagEq := t.flagEq, flagGt := t.flagGt, pc := t.pc, csr5 := csr5AfterReturn s.csr5 })
  | load (rd : Reg) (a : Word) (hl : LoadsAt s i rd a) (h : s.load rd a = .next t)
  | store (v a : Word) (hs : StoresAt s i v a) (h : s.store a v = .next t)
  | csrSet (hc : writesCsr i = true) (hi : i ≠ .iret) (c : Csr) (p : Word)
      (eq : t = (s.setCsrStored c (s.csrStored c ||| (p &&& c.settable))).advance)
  | csrClear (hc : writesCsr i = true) (hi : i ≠ .iret) (c : Csr) (p : Word)
      (eq : t = (s.setCsrStored c (s.csrStored c &&& (p ||| ~~~c.clearable))).advance)

section
variable {s t : State} {i : Instr}

theorem ByClass.of_writeResult (hf : writesFlags i = false) (hd : reachesData i = false) (hc : writesCsr i = false)
    (hi : i ≠ .iret) {rd : Reg} {v : Word} (h : s.writeResult rd v = .next t) : ByClass s i t := by
  cases h
  exact .plain hf hd hc hi rfl

theorem ByClass.of_jump (hf : writesFlags i = false) (hd : reachesData i = false) (hc : writesCsr i = false)
    (hi : i ≠ .iret) {a : Word} (h : (.next (s.jump a) : Result) = .next t) : ByClass s i t := by
  cases h
  exact .plain hf hd hc hi rfl

theorem ByClass.of_csrTest (hf : writesFlags i = true) (hd : reachesData i = false) (hc : writesCsr i = false)
    (hi : i ≠ .iret) {k : BitVec 4} {l : Half} {v : BitVec 16} (h : s.csrTest k l v = .next t) : ByClass s i t := by
  obtain ⟨-, e, g, rfl | rfl⟩ := State.csrTest_cases h
  · exact .test hf hd hc hi rfl
  · exact .test hf hd hc hi rfl

theorem ByClass.of_csrSet (hc : writesCsr i = true) (hi : i ≠ .iret) {k : BitVec 4} {l : Half} {v : BitVec 16}
    (h : s.csrSet k l v = .next t) : ByClass s i t := by
  obtain ⟨c, -, -, eq⟩ := State.csrSet_cases h
  exact .csrSet hc hi c _ eq

theorem ByClass.of_csrClear (hc : writesCsr i = true) (hi : i ≠ .iret) {k : BitVec 4} {l : Half} {v : BitVec 16}
    (h : s.csrClear k l v = .next t) : ByClass s i t := by
  obtain ⟨c, -, eq⟩ := State.csrClear_cases h
  exact .csrClear hc hi c _ eq

/-- Every next state of every instruction, by the instruction's class. -/
theorem exec_byClass (h : exec i s = .next t) : ByClass s i t := by
  cases i with
  | hlt => cases h; exact .plain rfl rfl rfl nofun rfl
  | nop | beq | bgt | b => exact .of_jump rfl rfl rfl nofun h
  | call => cases h; exact .plain rfl rfl rfl nofun rfl
  | ret =>
    change execRet s = .next t at h
    cases ha : pcAligned s.cfg (s.reg s.cfg.linkReg)
    · rw [execRet_of_misaligned ha] at h
      cases h
    · rw [execRet_of_aligned ha] at h
      exact .of_jump rfl rfl rfl nofun h
  | iret =>
    obtain ⟨-, rfl⟩ := State.returnFromInterrupt_cases h
    exact .iret rfl rfl
  | cmpReg | cmpImm => cases h; exact .test rfl rfl rfl nofun rfl
  | csrReadLo | csrReadHi => exact .of_csrTest rfl rfl rfl nofun h
  | csrSetLo | csrSetHi => exact .of_csrSet rfl nofun h
  | csrClearLo | csrClearHi => exact .of_csrClear rfl nofun h
  | ldReg => exact .load _ _ (.reg ..) h
  | ldImm => exact .load _ _ (.imm ..) h
  | stReg => exact .store _ _ (.reg ..) h
  | stImm => exact .store _ _ (.imm ..) h
  | _ => exact .of_writeResult rfl rfl rfl nofun h

theorem reachesData_of_loadsAt {rd : Reg} {a : Word} (h : LoadsAt s i rd a) : reachesData i = true := by
  cases h <;> rfl

theorem reachesData_of_storesAt {v a : Word} (h : StoresAt s i v a) : reachesData i = true := by
  cases h <;> rfl

theorem ne_iret_of_reachesData (h : reachesData i = true) : i ≠ .iret := by
  rintro rfl
  cases h

/-- What a load can change: the register, and what the device's own read does. -/
theorem State.load_frame {rd : Reg} {a : Word} (h : s.load rd a = .next t) :
    t = { s with regs := t.regs, pc := t.pc, csr2 := t.csr2, uart := t.uart, gpio := t.gpio, bus := t.bus
                 freeCount := t.freeCount } := by
  obtain ⟨d, -, ⟨-, rfl⟩ | ⟨-, rfl⟩⟩ := State.load_cases h
  · rw [State.loadFrom_frame]
    rfl
  · rfl

/-- What a store can change: data memory, or the device. -/
theorem State.store_frame {a v : Word} (h : s.store a v = .next t) :
    t = { s with pc := t.pc, ram := t.ram, pwm := t.pwm, uart := t.uart, spi := t.spi, timer := t.timer
                 gpio := t.gpio, bus := t.bus, freeCount := t.freeCount } := by
  obtain ⟨d, -, -, ⟨-, rfl⟩ | ⟨-, rfl⟩⟩ := State.store_cases h
  · rw [State.storeTo_frame]
    rfl
  · rfl

end

end Sys2Proof.Machine

namespace Sys2Proof

open Sys2Proof.Machine Sys2Proof.Claims

/-- Settles O52: of the classes, only the tests and `iret` have the flags in their frame. -/
theorem onlyThreeInstructionsWriteFlags : Obligations.OnlyThreeInstructionsWriteFlags := by
  unfold Obligations.OnlyThreeInstructionsWriteFlags
  intro i s t hi h
  cases exec_byClass h with
  | plain _ _ _ _ frame => rw [frame]; exact ⟨rfl, rfl⟩
  | test hf => rw [hi] at hf; cases hf
  | iret hiret => subst hiret; cases hi
  | load rd a _ h => rw [State.load_frame h]; exact ⟨rfl, rfl⟩
  | store v a _ h => rw [State.store_frame h]; exact ⟨rfl, rfl⟩
  | csrSet _ _ c p eq => subst eq; simp
  | csrClear _ _ c p eq => subst eq; simp

/-- Settles O54: no class but the loads and stores has data memory, a device or the bus in its frame. -/
theorem onlyLoadStoreTouchDataSpace : Obligations.OnlyLoadStoreTouchDataSpace := by
  unfold Obligations.OnlyLoadStoreTouchDataSpace
  intro i s t hi h
  have lanes : t.ram = s.ram ∧ t.epoch = s.epoch → ∀ k, t.ramLane k = s.ramLane k := by
    rintro ⟨hr, he⟩ k
    rw [State.ramLane, State.ramLane, hr, he]
  cases exec_byClass h with
  | plain _ _ _ _ frame | test _ _ _ _ frame | iret _ frame =>
    rw [frame]
    exact ⟨fun _ => rfl, rfl, rfl, rfl, rfl, rfl, rfl, rfl⟩
  | load rd a hl => rw [reachesData_of_loadsAt hl] at hi; cases hi
  | store v a hs => rw [reachesData_of_storesAt hs] at hi; cases hi
  | csrSet _ _ c p eq => refine ⟨lanes ?_, ?_⟩ <;> subst eq <;> simp
  | csrClear _ _ c p eq => refine ⟨lanes ?_, ?_⟩ <;> subst eq <;> simp

end Sys2Proof
end

section
/-!
PROOFS. Who writes the CSRs, who reads the flags, and the rules every step keeps (spec/10_state.md sections 2 to 4,
spec/20_memory.md sections 1 and 7, spec/60_exceptions.md section 2).
-/

namespace Sys2Proof.Machine

open Sys2Proof.Claims

/-! ### The bits of `csr[5]` under `iret` and the `csr mov` writes (R132, R136, R137) -/

/-- `iret` touches the global enables and the three status bits alone. -/
theorem getLsbD_csr5AfterReturn {c : BitVec 22} {j : Nat} (hj : j < 16 ∨ j = 20) :
    (csr5AfterReturn c).getLsbD j = c.getLsbD j := by
  unfold csr5AfterReturn
  split
  · dsimp only
    split <;> simp only [getLsbD_setBit] <;> grind
  · split
    · simp only [getLsbD_setBit]; grind
    · rfl

section
variable (s : State) (c : Csr) (p : Word)

/-- The state after a `csr mov` set of the mask `p` (R136). -/
theorem State.csr5_csrSet (j : Nat) :
    (s.setCsrStored c (s.csrStored c ||| (p &&& c.settable))).csr5.getLsbD j =
      (s.csr5.getLsbD j || (decide (c = .intcon ∧ j < 22) && (p.getLsbD j && (Csr.settable .intcon).getLsbD j))) := by
  cases c
  case intcon =>
    simp only [State.setCsrStored_eq_intcon, State.csrStored, BitVec.getLsbD_setWidth, BitVec.getLsbD_or,
      BitVec.getLsbD_and]
    grind
  all_goals simp [State.setCsrStored]

theorem State.csr5_csrClear (j : Nat) :
    (s.setCsrStored c (s.csrStored c &&& (p ||| ~~~c.clearable))).csr5.getLsbD j =
      (s.csr5.getLsbD j && (decide (c ≠ .intcon) || (p.getLsbD j || !(Csr.clearable .intcon).getLsbD j))) := by
  cases c
  case intcon =>
    simp only [State.setCsrStored_eq_intcon, State.csrStored, BitVec.getLsbD_setWidth, BitVec.getLsbD_and,
      BitVec.getLsbD_or, BitVec.getLsbD_not]
    grind
  all_goals simp [State.setCsrStored]

end

/-- No set reaches a source's flag or a status bit (R24, R25). -/
theorem getLsbD_settable_intcon {j : Nat} (hj : j ∈ [0, 2, 4, 6, 8, 10, 12, 14] ∨ 18 ≤ j) :
    (Csr.settable .intcon).getLsbD j = false := by
  rcases hj with hj | hj
  · revert j
    decide
  · by_cases h : j < 32
    · have : ∀ k < 32, 18 ≤ k → (Csr.settable .intcon).getLsbD k = false := by decide
      exact this j h hj
    · exact BitVec.getLsbD_of_ge _ _ (by omega)

/-- No clear reaches a status bit (R24, R25). -/
theorem getLsbD_clearable_intcon {j : Nat} (hj : 18 ≤ j) : (Csr.clearable .intcon).getLsbD j = false := by
  by_cases h : j < 32
  · have : ∀ k < 32, 18 ≤ k → (Csr.clearable .intcon).getLsbD k = false := by decide
    exact this j h hj
  · exact BitVec.getLsbD_of_ge _ _ (by omega)

/-! ### The status bits of the SPI (R21, R236) -/

theorem eq_of_targetOf_spi {c : Config} {a : Word} (h : targetOf c a = some .spi) : a = 0x00010004#32 := by
  unfold targetOf at h
  split at h
  case h_5 ha => exact BitVec.eq_of_toNat_eq ha
  case h_7 => split at h <;> cases h
  all_goals cases h

section
variable {s t : State} {i : Instr}

theorem State.loadFrom_csr2 {d : Target} (hd : d ≠ .spi) (a : Word) : (s.loadFrom d a).2.csr2 = s.csr2 := by
  cases d with
  | spi => exact absurd rfl hd
  | _ => rfl

theorem State.getLsbD_loadFrom_csr2 {d : Target} {a : Word} {j : Nat} (hj : j < 8) :
    (s.loadFrom d a).2.csr2.getLsbD j = s.csr2.getLsbD j := by
  by_cases hd : d = .spi
  · subst hd
    simp only [State.loadFrom, State.loadSpi]
    (repeat' split) <;> simp only [getLsbD_setBit] <;> grind
  · rw [State.loadFrom_csr2 hd]

theorem State.load_csr2 {rd : Reg} {a : Word} (h : s.load rd a = .next t) :
    (∀ j < 8, t.csr2.getLsbD j = s.csr2.getLsbD j) ∧ (a ≠ 0x00010004#32 → t.csr2 = s.csr2) := by
  obtain ⟨d, hd, ⟨-, rfl⟩ | ⟨-, rfl⟩⟩ := State.load_cases h
  · refine ⟨fun j hj => State.getLsbD_loadFrom_csr2 hj, fun ha => State.loadFrom_csr2 ?_ a⟩
    rintro rfl
    exact ha (eq_of_targetOf_spi hd)
  · exact ⟨fun _ _ => rfl, fun _ => rfl⟩

theorem loadsAt_unique {r r' : Reg} {a a' : Word} (h : LoadsAt s i r a) (h' : LoadsAt s i r' a') : a = a' := by
  cases h <;> cases h' <;> rfl

theorem not_loadsAt_of_storesAt {r : Reg} {v a a' : Word} (h : StoresAt s i v a) : ¬ LoadsAt s i r a' := by
  cases h <;> nofun

end

end Sys2Proof.Machine

namespace Sys2Proof

open Sys2Proof.Machine Sys2Proof.Claims

section
variable {s t : State} {i : Instr}

/-- An instruction that is no `csr mov` set or clear leaves the CSRs alone, but for the status bits of the SPI under a
load and those of `csr[5]` under `iret` (R113, R132). -/
theorem exec_csrs_of_not_writesCsr (hc : writesCsr i = false) (h : exec i s = .next t) :
    t.csr1 = s.csr1 ∧ t.csr3 = s.csr3 ∧ t.csr4 = s.csr4 ∧ t.tmcon = s.tmcon ∧
    (∀ j < 8, t.csr2.getLsbD j = s.csr2.getLsbD j) ∧ (reachesData i = false → t.csr2 = s.csr2) ∧
    (∀ rd a, LoadsAt s i rd a → a ≠ 0x00010004#32 → t.csr2 = s.csr2) ∧
    (∀ v a, StoresAt s i v a → t.csr2 = s.csr2) ∧
    (∀ j < 16, t.csr5.getLsbD j = s.csr5.getLsbD j) ∧ t.csr5.getLsbD 20 = s.csr5.getLsbD 20 ∧
    (i ≠ .iret → t.csr5 = s.csr5) := by
  cases exec_byClass h with
  | plain _ _ _ _ frame | test _ _ _ _ frame =>
    rw [frame]
    exact ⟨rfl, rfl, rfl, rfl, fun _ _ => rfl, fun _ => rfl, fun _ _ _ _ => rfl, fun _ _ _ => rfl, fun _ _ => rfl, rfl,
      fun _ => rfl⟩
  | iret hi frame =>
    rw [frame]
    exact ⟨rfl, rfl, rfl, rfl, fun _ _ => rfl, fun _ => rfl, fun _ _ _ _ => rfl, fun _ _ _ => rfl,
      fun _ hj => getLsbD_csr5AfterReturn (.inl hj), getLsbD_csr5AfterReturn (.inr rfl), fun h => absurd hi h⟩
  | load rd a hl h =>
    obtain ⟨low, other⟩ := State.load_csr2 h
    have frame := State.load_frame h
    have csr5 : t.csr5 = s.csr5 := by rw [frame]
    refine ⟨by rw [frame], by rw [frame], by rw [frame], by rw [frame], low, fun hd => ?_, fun _ _ hl' => ?_,
      fun _ _ hs => absurd hl (not_loadsAt_of_storesAt hs), fun _ _ => by rw [csr5], by rw [csr5], fun _ => csr5⟩
    · rw [reachesData_of_loadsAt hl] at hd
      cases hd
    · rw [← loadsAt_unique hl hl']
      exact other
  | store v a hs h =>
    have frame := State.store_frame h
    have csr2 : t.csr2 = s.csr2 := by rw [frame]
    have csr5 : t.csr5 = s.csr5 := by rw [frame]
    exact ⟨by rw [frame], by rw [frame], by rw [frame], by rw [frame], fun _ _ => by rw [csr2], fun _ => csr2,
      fun _ _ _ _ => csr2, fun _ _ _ => csr2, fun _ _ => by rw [csr5], by rw [csr5], fun _ => csr5⟩
  | csrSet hw | csrClear hw => rw [hc] at hw; cases hw

/-- Only `iret` moves a status bit of `csr[5]` (R25, R132). -/
theorem exec_status_bit (hi : i ≠ .iret) (h : exec i s = .next t) {j : Nat} (hj : 18 ≤ j) :
    t.csr5.getLsbD j = s.csr5.getLsbD j := by
  cases exec_byClass h with
  | plain _ _ _ _ frame | test _ _ _ _ frame => rw [frame]
  | iret hi' => exact absurd hi' hi
  | load _ _ _ h => rw [State.load_frame h]
  | store _ _ _ h => rw [State.store_frame h]
  | csrSet _ _ c p eq =>
    rw [eq, State.advance_csr5, State.csr5_csrSet, getLsbD_settable_intcon (.inr hj)]
    simp
  | csrClear _ _ c p eq =>
    rw [eq, State.advance_csr5, State.csr5_csrClear, getLsbD_clearable_intcon hj]
    simp

/-- No instruction makes a source's flag 1 (R25, D18). -/
theorem exec_source_flag (h : exec i s = .next t) {j : Nat} (hj : j ∈ [0, 2, 4, 6, 8, 10, 12, 14])
    (ht : t.csr5.getLsbD j = true) : s.csr5.getLsbD j = true := by
  have low : j < 16 := (by decide : ∀ k ∈ [0, 2, 4, 6, 8, 10, 12, 14], k < 16) j hj
  cases exec_byClass h with
  | plain _ _ _ _ frame | test _ _ _ _ frame => rw [frame] at ht; exact ht
  | iret _ frame =>
    rw [frame] at ht
    rwa [← getLsbD_csr5AfterReturn (.inl low)]
  | load _ _ _ h => rw [State.load_frame h] at ht; exact ht
  | store _ _ _ h => rw [State.store_frame h] at ht; exact ht
  | csrSet _ _ c p eq =>
    rw [eq, State.advance_csr5, State.csr5_csrSet, getLsbD_settable_intcon (.inl hj)] at ht
    simpa using ht
  | csrClear _ _ c p eq =>
    rw [eq, State.advance_csr5, State.csr5_csrClear, Bool.and_eq_true] at ht
    exact ht.1

end

/-- Settles O55: one lemma for each of its three clauses. -/
theorem onlyCsrMovWritesCsrs : Obligations.OnlyCsrMovWritesCsrs := by
  unfold Obligations.OnlyCsrMovWritesCsrs
  intro i s t h
  exact ⟨fun hc => exec_csrs_of_not_writesCsr hc h,
    fun hi => ⟨exec_status_bit hi h (by decide), exec_status_bit hi h (by decide), exec_status_bit hi h (by decide)⟩,
    fun j hj => exec_source_flag h hj⟩

/-! ### Who reads the flags (R17) -/

/-- An outcome with its next state mapped. -/
def mapNext (f : State → State) : Result → Result
  | .next t => .next (f t)
  | .fault r => .fault r
  | .refused r => .refused r

theorem mapNext_id (r : Result) : mapNext (fun t => t) r = r := by
  cases r <;> rfl

section
variable (s : State) (e g : Bool)

theorem loadFrom_withFlags (d : Target) (a : Word) :
    (withFlags s e g).loadFrom d a = ((s.loadFrom d a).1, withFlags (s.loadFrom d a).2 e g) := by
  cases d with
  | spi =>
    change (withFlags s e g).loadSpi = (s.loadSpi.1, withFlags s.loadSpi.2 e g)
    cases h2 : s.spiBuf2
    · cases h1 : s.spiBuf1
      · rw [State.loadSpi_of_empty (s := withFlags s e g) h2 h1, State.loadSpi_of_empty h2 h1]
        rfl
      · rw [State.loadSpi_of_buf1 (s := withFlags s e g) h2 h1, State.loadSpi_of_buf1 h2 h1]
        rfl
    · rw [State.loadSpi_of_buf2 (s := withFlags s e g) h2, State.loadSpi_of_buf2 h2]
      rfl
  | _ => rfl

theorem storeTo_withFlags (d : Target) (a v : Word) :
    (withFlags s e g).storeTo d a v = withFlags (s.storeTo d a v) e g := by
  cases d with
  | uart =>
    change (withFlags s e g).storeUart v = withFlags (s.storeUart v) e g
    cases ht : s.uartTxEnabled
    · cases hx : s.uart.txif
      · rw [State.storeUart_of_full (s := withFlags s e g) ht hx, State.storeUart_of_full ht hx]
      · rw [State.storeUart_of_disabled (s := withFlags s e g) ht hx, State.storeUart_of_disabled ht hx]
        rfl
    · rw [State.storeUart_of_enabled (s := withFlags s e g) ht, State.storeUart_of_enabled ht]
      rfl
  | _ => rfl

theorem ready_withFlags (d : Target) : (withFlags s e g).ready d = s.ready d := by
  cases d <;> rfl

theorem load_withFlags (rd : Reg) (a : Word) :
    (withFlags s e g).load rd a = mapNext (withFlags · e g) (s.load rd a) := by
  cases hd : targetOf s.cfg a with
  | none => rw [State.load_of_unmapped (s := withFlags s e g) hd, State.load_of_unmapped hd, mapNext]
  | some d =>
    cases hr : s.ready d
    · rw [State.load_of_busy hd hr, State.load_of_busy (s := withFlags s e g) hd ((ready_withFlags ..).trans hr)]
      rfl
    · rw [State.load_of_ready hd hr, State.load_of_ready (s := withFlags s e g) hd ((ready_withFlags ..).trans hr),
        loadFrom_withFlags]
      rfl

theorem store_withFlags (a v : Word) : (withFlags s e g).store a v = mapNext (withFlags · e g) (s.store a v) := by
  cases hd : targetOf s.cfg a with
  | none => rw [State.store_of_unmapped (s := withFlags s e g) hd, State.store_of_unmapped hd, mapNext]
  | some d =>
    by_cases hg : s.cfg.codeStores = .guarded ∧ s.isCode a = true
    · rw [State.store_of_guarded hd hg, State.store_of_guarded (s := withFlags s e g) hd hg, mapNext]
    · cases hr : s.ready d
      · rw [State.store_of_busy hd hg hr,
          State.store_of_busy (s := withFlags s e g) hd hg ((ready_withFlags ..).trans hr)]
        rfl
      · rw [State.store_of_ready hd hg hr,
          State.store_of_ready (s := withFlags s e g) hd hg ((ready_withFlags ..).trans hr), storeTo_withFlags]
        rfl

theorem setCsrStored_withFlags (c : Csr) (w : Word) :
    (withFlags s e g).setCsrStored c w = withFlags (s.setCsrStored c w) e g := by
  cases c <;> rfl

theorem csrStored_withFlags (c : Csr) : (withFlags s e g).csrStored c = s.csrStored c := by
  cases c <;> rfl

theorem csrRead_withFlags (c : Csr) : (withFlags s e g).csrRead c = s.csrRead c := by
  cases c <;> rfl

theorem csrSet_withFlags (k : BitVec 4) (h : Half) (v : BitVec 16) :
    (withFlags s e g).csrSet k h v = mapNext (withFlags · e g) (s.csrSet k h v) := by
  unfold State.csrSet
  rw [show (withFlags s e g).cfg = s.cfg from rfl]
  cases csrAt s.cfg k with
  | none => rfl
  | some c =>
    simp only [csrStored_withFlags, setCsrStored_withFlags]
    split <;> rfl

theorem csrClear_withFlags (k : BitVec 4) (h : Half) (v : BitVec 16) :
    (withFlags s e g).csrClear k h v = mapNext (withFlags · e g) (s.csrClear k h v) := by
  unfold State.csrClear
  rw [show (withFlags s e g).cfg = s.cfg from rfl]
  cases csrAt s.cfg k with
  | none => rfl
  | some c =>
    simp only [csrStored_withFlags, setCsrStored_withFlags]
    rfl

theorem csrTest_withFlags (k : BitVec 4) (h : Half) (v : BitVec 16) :
    (withFlags s e g).csrTest k h v = s.csrTest k h v := by
  unfold State.csrTest
  rw [show (withFlags s e g).cfg = s.cfg from rfl]
  cases csrAt s.cfg k with
  | none => rfl
  | some c =>
    simp only [csrRead_withFlags]
    rfl

/-- An instruction that reads no flag does the same from two states that differ in the flags alone. -/
theorem exec_withFlags {i : Instr} (hi : readsFlags i = false) : exec i (withFlags s e g) =
    mapNext (fun t => if writesFlags i then t else withFlags t e g) (exec i s) := by
  cases i with
  | beq | bgt => cases hi
  | ldReg | ldImm => exact load_withFlags ..
  | stReg | stImm => exact store_withFlags ..
  | csrSetLo | csrSetHi => exact csrSet_withFlags ..
  | csrClearLo | csrClearHi => exact csrClear_withFlags ..
  | csrReadLo | csrReadHi => exact (csrTest_withFlags ..).trans (mapNext_id _).symm
  | ret =>
    change execRet (withFlags s e g) = mapNext (withFlags · e g) (execRet s)
    cases ha : pcAligned s.cfg (s.reg s.cfg.linkReg)
    · rw [execRet_of_misaligned ha, execRet_of_misaligned (s := withFlags s e g) ha, mapNext]
    · rw [execRet_of_aligned ha, execRet_of_aligned (s := withFlags s e g) ha]
      rfl
  | iret =>
    refine Eq.trans ?_ (mapNext_id _).symm
    change (withFlags s e g).returnFromInterrupt = s.returnFromInterrupt
    cases ha : pcAligned s.cfg (s.reg 12#4)
    · rw [State.returnFromInterrupt_of_misaligned ha, State.returnFromInterrupt_of_misaligned (s := withFlags s e g) ha]
    · rw [State.returnFromInterrupt_of_aligned ha, State.returnFromInterrupt_of_aligned (s := withFlags s e g) ha]
      rfl
  | _ => rfl

end

/-- Settles O53. -/
theorem onlyBranchesReadFlags : Obligations.OnlyBranchesReadFlags := by
  unfold Obligations.OnlyBranchesReadFlags
  intro i s e g hi
  rw [exec_withFlags s e g hi]
  cases exec i s <;> rfl

/-! ### What every step keeps -/

section
variable {s t : State} {i : Instr}

theorem exec_imem_cfg (h : exec i s = .next t) : t.imem = s.imem ∧ t.cfg = s.cfg := by
  cases exec_byClass h with
  | plain _ _ _ _ frame | test _ _ _ _ frame | iret _ frame => rw [frame]; exact ⟨rfl, rfl⟩
  | load _ _ _ h => rw [State.load_frame h]; exact ⟨rfl, rfl⟩
  | store _ _ _ h => rw [State.store_frame h]; exact ⟨rfl, rfl⟩
  | csrSet _ _ c p eq | csrClear _ _ c p eq => subst eq; simp

theorem step_imem_cfg (h : step s = .next t) : t.imem = s.imem ∧ t.cfg = s.cfg := by
  have frame := s.atBoundary_envFrame
  rw [← frame.imem, ← frame.cfg]
  rcases step_cases h with ⟨-, -, rfl⟩ | ⟨-, -, rfl⟩ | ⟨-, -, l, -, rfl⟩ | ⟨-, -, -, i, -, hi⟩
  · exact ⟨State.watchdogReset_imem, State.watchdogReset_cfg⟩
  · exact ⟨State.watchdogReset_imem, State.watchdogReset_cfg⟩
  · exact ⟨State.enterInterrupt_imem _ l, State.enterInterrupt_cfg _ l⟩
  · exact exec_imem_cfg hi

/-- An instruction changes data memory by at most one word write (R45). -/
theorem exec_ram (h : exec i s = .next t) : t.ram = s.ram ∨ ∃ a v, t.ram = s.ram.writeWord a v := by
  cases exec_byClass h with
  | plain _ _ _ _ frame | test _ _ _ _ frame | iret _ frame => rw [frame]; exact .inl rfl
  | load _ _ _ h => rw [State.load_frame h]; exact .inl rfl
  | store v a _ h =>
    obtain ⟨d, -, -, ⟨-, rfl⟩ | ⟨-, rfl⟩⟩ := State.store_cases h
    · rw [State.advance_ram, State.setBus_ram, State.storeTo_ram]
      split
      · exact .inr ⟨_, _, rfl⟩
      · exact .inl rfl
    · exact .inl rfl
  | csrSet _ _ c p eq | csrClear _ _ c p eq => subst eq; simp

theorem step_ram_wf (hr : s.ram.wf) (h : step s = .next t) : t.ram.wf := by
  rw [← s.atBoundary_envFrame.ram] at hr
  rcases step_cases h with ⟨-, -, rfl⟩ | ⟨-, -, rfl⟩ | ⟨-, -, l, -, rfl⟩ | ⟨-, -, -, i, -, hi⟩
  · rw [State.watchdogReset_ram]; exact List.Pairwise.nil
  · rw [State.watchdogReset_ram]; exact List.Pairwise.nil
  · rwa [State.enterInterrupt_ram]
  · rcases exec_ram hi with eq | ⟨a, v, eq⟩
    · rwa [eq]
    · rw [eq]
      exact Memory.writeWord_wf hr a v

end

/-- Settles O56. -/
theorem noStepChangesProgram : Obligations.NoStepChangesProgram := by
  unfold Obligations.NoStepChangesProgram
  exact fun _ _ => step_imem_cfg

/-- Settles O57: data memory changes by word writes alone, the instruction memory not at all. -/
theorem stepKeepsMemoryCanonical : Obligations.StepKeepsMemoryCanonical := by
  unfold Obligations.StepKeepsMemoryCanonical
  intro s t ⟨hram, himem⟩ h
  refine ⟨step_ram_wf hram h, ?_⟩
  rwa [(step_imem_cfg h).1]

/-! ### The pc is an instruction address (R16) -/

theorem pcAligned_iff_dvd {c : Config} {t : Word} : pcAligned c t = true ↔ c.pcStep.toNat ∣ t.toNat := by
  rw [pcAligned, beq_iff_eq, Nat.dvd_iff_mod_eq_zero]

theorem pcStep_dvd_size (p : PcStep) : p.toNat ∣ 2 ^ 32 := by
  cases p <;> decide

/-- Whole instructions from an instruction address is an instruction address. -/
theorem pcAligned_add_mul {c : Config} {t : Word} (h : pcAligned c t = true) (x : Word) :
    pcAligned c (t + x * c.pcStep.toWord) = true := by
  rw [pcAligned_iff_dvd] at h ⊢
  have hstep : c.pcStep.toWord.toNat = c.pcStep.toNat := by cases c.pcStep <;> rfl
  rw [BitVec.toNat_add, BitVec.toNat_mul, hstep, Nat.dvd_mod_iff (pcStep_dvd_size _)]
  exact Nat.dvd_add h ((Nat.dvd_mod_iff (pcStep_dvd_size _)).2 (Nat.dvd_mul_left ..))

section
variable {s t : State} {i : Instr}

theorem pcAligned_nextPc (h : s.PcAligned) : pcAligned s.cfg s.nextPc = true := by
  have := pcAligned_add_mul h 1#32
  rwa [BitVec.one_mul] at this

theorem pcAligned_branchTarget (h : s.PcAligned) (o : BitVec 27) : pcAligned s.cfg (s.branchTarget o) = true :=
  pcAligned_add_mul h _

theorem exec_pcAligned (hp : s.PcAligned) (h : exec i s = .next t) : t.PcAligned := by
  unfold State.PcAligned
  rw [(exec_imem_cfg h).2]
  cases exec_effect h with
  | result | flags | freeFlags => exact pcAligned_nextPc hp
  | csrSet | csrClear | load | store => simpa [State.nextPc] using pcAligned_nextPc hp
  | jump a ha =>
    rcases ha with ha | rfl | ⟨o, rfl⟩
    · exact ha
    · exact pcAligned_nextPc hp
    · exact pcAligned_branchTarget hp o
  | call o => exact pcAligned_branchTarget hp o
  | iret ha => exact ha
  | halt | wait => exact hp

theorem step_pcAligned (hc : s.cfg.wf) (hp : s.PcAligned) (h : step s = .next t) : t.PcAligned := by
  have frame := s.atBoundary_envFrame
  have hp' : s.atBoundary.PcAligned := by
    unfold State.PcAligned
    rwa [frame.cfg, frame.pc]
  rw [← frame.cfg] at hc
  obtain ⟨-, -, -, -, -, -, -, hreset, hhigh, hlow⟩ := hc
  rcases step_cases h with ⟨-, -, rfl⟩ | ⟨-, -, rfl⟩ | ⟨-, -, l, -, rfl⟩ | ⟨-, -, -, i, -, hi⟩
  · rw [State.PcAligned, State.watchdogReset_cfg, State.watchdogReset_pc]
    exact beq_iff_eq.2 hreset
  · rw [State.PcAligned, State.watchdogReset_cfg, State.watchdogReset_pc]
    exact beq_iff_eq.2 hreset
  · rw [State.PcAligned, State.enterInterrupt_cfg, State.enterInterrupt_pc]
    cases l
    · exact beq_iff_eq.2 hhigh
    · exact beq_iff_eq.2 hlow
  · exact exec_pcAligned hp' hi

end

/-- Settles O58: the vectors are aligned by the configuration, every other target by the pc it is reckoned from or by the
check of `ret` and `iret`. -/
theorem stepKeepsPcAligned : Obligations.StepKeepsPcAligned := by
  unfold Obligations.StepKeepsPcAligned
  exact fun _ _ => step_pcAligned

end Sys2Proof
end

section
/-!
PROOFS. The boundary and what stands before the instruction (spec/00_scope.md R6): the events of the environment, the
watchdog with EN = 0, the interrupt entries, and the invariant of the status bits (spec/60_exceptions.md sections 2 to 5
and 8).
-/

namespace Sys2Proof.Machine

open Sys2Proof.Claims

/-! ### Events, one after the other -/

section
variable (s : State)

@[simp] theorem State.applyEvents_nil : s.applyEvents [] = s := rfl

@[simp] theorem State.applyEvents_cons (e : EnvEvent) (es : List EnvEvent) :
    s.applyEvents (e :: es) = (s.applyEvent e).applyEvents es := rfl

theorem State.applyEvents_append (es es' : List EnvEvent) :
    s.applyEvents (es ++ es') = (s.applyEvents es).applyEvents es' := by
  induction es generalizing s with
  | nil => rfl
  | cons e es ih => exact ih _

@[simp] theorem repeated_zero (e : EnvEvent) : repeated s 0 e = s := rfl

theorem repeated_succ (n : Nat) (e : EnvEvent) : repeated s (n + 1) e = (repeated s n e).applyEvent e := by
  rw [repeated, repeated, List.replicate_succ', State.applyEvents_append]
  rfl

/-- A rule every event keeps holds after any events. -/
theorem State.applyEvents_induction {P : State → Prop} (hP : ∀ u e, P u → P (u.applyEvent e)) (es : List EnvEvent)
    {s : State} (h : P s) : P (s.applyEvents es) := by
  induction es generalizing s with
  | nil => exact h
  | cons e es ih => exact ih (hP s e h)

theorem State.applyEvents_inputs (es : List EnvEvent) : (s.applyEvents es).inputs = s.inputs := by
  refine State.applyEvents_induction (P := fun u => u.inputs = s.inputs) (fun u e h => ?_) es rfl
  rw [State.applyEvent_frame]
  exact h

theorem State.atBoundary_inputs : s.atBoundary.inputs = s.inputs.tail := by
  rw [State.atBoundary, State.notePc_inputs, State.applyEvents_inputs, State.stallCycle_frame, State.holdWatchdog_frame]
  rfl

/-- Only the flags of the sources move at a boundary (R156). -/
theorem State.atBoundary_csr5_bit {j : Nat} (hj : 16 ≤ j) : s.atBoundary.csr5.getLsbD j = s.csr5.getLsbD j := by
  rw [State.atBoundary, State.notePc_csr5]
  refine State.applyEvents_induction (P := fun u => u.csr5.getLsbD j = s.csr5.getLsbD j) (fun u e h => ?_) _ ?_
  · rcases u.applyEvent_csr5 e with eq | ⟨i, eq⟩
    · rwa [eq]
    · have low : 2 * sourceIndex i < 16 := by cases i <;> decide
      rw [eq, getLsbD_setBit, if_neg (by omega), h]
  · rw [State.stallCycle_frame, State.holdWatchdog_frame]
    rfl

end

/-! ### The watchdog with EN = 0 (R183) -/

section
variable {s t : State}

theorem State.watchdogEnabled_congr (h4 : t.csr4 = s.csr4) (hc : t.cfg = s.cfg) :
    t.watchdogEnabled = s.watchdogEnabled := by
  simp only [State.watchdogEnabled, h4, hc]

theorem EnvFrame.watchdogEnabled (h : EnvFrame s t) : t.watchdogEnabled = s.watchdogEnabled :=
  State.watchdogEnabled_congr h.csr4 h.cfg

/-- The watchdog is disabled and held in reset. -/
def WatchdogHeld (s : State) : Prop :=
  s.watchdogEnabled = false ∧ s.wdt.divider = 0 ∧ s.wdt.count = 0 ∧ s.wdt.pcRst = false

theorem holdWatchdog_held (h : s.watchdogEnabled = false) : WatchdogHeld s.holdWatchdog := by
  rw [State.holdWatchdog, h]
  exact ⟨h, rfl, rfl, rfl⟩

theorem watchdogCycle_held (h : WatchdogHeld s) (b : Bool) : WatchdogHeld (s.watchdogCycle b) := by
  refine ⟨(s.applyEvent_envFrame (.watchdogCycle b)).watchdogEnabled.trans h.1, ?_⟩
  simp [State.watchdogCycle, h.1]

/-- The two events that reach the watchdog. -/
theorem applyEvent_wdt (s : State) (e : EnvEvent) :
    (∃ b, e = .watchdogCycle b) ∨ e = .watchdogFire ∨ (s.applyEvent e).wdt = s.wdt := by
  cases e with
  | watchdogCycle b => exact .inl ⟨b, rfl⟩
  | watchdogFire => exact .inr (.inl rfl)
  | _ =>
    refine .inr (.inr ?_)
    simp only [State.applyEvent, State.timerClock, State.timerCount, State.pwmTick, State.uartTxTick, State.uartRxBit,
      State.uartLineIdle, State.spiSelect, State.spiClock, State.spiPhaseHigh, State.spiPhaseLow, State.spiEnd,
      State.raiseFlag_wdt, State.drivePins_wdt] <;>
      (repeat' split) <;> rfl

theorem applyEvent_held (h : WatchdogHeld s) (e : EnvEvent) : WatchdogHeld (s.applyEvent e) := by
  have enabled := (s.applyEvent_envFrame e).watchdogEnabled
  rcases applyEvent_wdt s e with ⟨b, rfl⟩ | rfl | wdt
  · exact watchdogCycle_held h b
  · simpa [State.applyEvent, State.watchdogFire, h.1] using h
  · refine ⟨enabled.trans h.1, ?_⟩
    rw [wdt]
    exact h.2

theorem stallCycle_held (h : WatchdogHeld s) : WatchdogHeld s.stallCycle := by
  rw [State.stallCycle]
  split
  · exact watchdogCycle_held h false
  · exact h

theorem atBoundary_held (h : s.watchdogEnabled = false) : WatchdogHeld s.atBoundary := by
  have held := stallCycle_held (holdWatchdog_held (s := s.dropInput) h)
  exact State.applyEvents_induction (P := WatchdogHeld) (fun _ e => (applyEvent_held · e)) s.boundary.events held

theorem resetDue_of_held (h : WatchdogHeld s) : s.resetDue = false := by
  rw [State.resetDue, h.1, Bool.and_false]

theorem exec_epoch {i : Instr} (h : exec i s = .next t) : t.epoch = s.epoch := by
  cases exec_byClass h with
  | plain _ _ _ _ frame | test _ _ _ _ frame | iret _ frame => rw [frame]
  | load _ _ _ h => rw [State.load_frame h]
  | store _ _ _ h => rw [State.store_frame h]
  | csrSet _ _ c p eq | csrClear _ _ c p eq => subst eq; simp

/-- With EN = 0 a step is an interrupt entry or an instruction. -/
theorem step_cases_of_disabled (hw : s.watchdogEnabled = false) (h : step s = .next t) :
    (∃ l, t = s.atBoundary.enterInterrupt l) ∨ ∃ i, exec i s.atBoundary = .next t := by
  rcases step_cases h with ⟨-, he, -⟩ | ⟨-, hr, -⟩ | ⟨-, -, l, -, ht⟩ | ⟨-, -, -, i, -, hi⟩
  · rw [hw] at he
    cases he
  · rw [resetDue_of_held (atBoundary_held hw)] at hr
    cases hr
  · exact .inl ⟨l, ht⟩
  · exact .inr ⟨i, hi⟩

end

/-! ### `csr[5]` after an entry, a return and a reset (R132, R161, R162, R260) -/

theorem getLsbD_csr5AfterEntry_high (c : BitVec 22) (j : Nat) : (csr5AfterEntry .high c).getLsbD j =
    if j = 16 ∨ j = 17 then false else if j = 19 then true
    else if j = 21 then c.getLsbD 21 || c.getLsbD 18 else c.getLsbD j := by
  unfold csr5AfterEntry
  cases h : c.getLsbD 18
  · simp only [Bool.false_eq_true, if_false, getLsbD_setBit]
    grind
  · simp only [if_true, getLsbD_setBit]
    grind

theorem getLsbD_csr5AfterEntry_low (c : BitVec 22) (j : Nat) : (csr5AfterEntry .low c).getLsbD j =
    if j = 16 then false else if j = 18 then true else c.getLsbD j := by
  simp only [csr5AfterEntry, getLsbD_setBit]
  grind

theorem getLsbD_csr5AfterReturn_high {c : BitVec 22} (h : c.getLsbD 19 = true) (j : Nat) :
    (csr5AfterReturn c).getLsbD j = if j = 19 then false else if j = 17 then true
      else if j = 16 then c.getLsbD 16 || !c.getLsbD 21 else c.getLsbD j := by
  simp only [csr5AfterReturn, h, if_true]
  cases h21 : c.getLsbD 21
  · simp only [Bool.false_eq_true, if_false, getLsbD_setBit]
    grind
  · simp only [if_true, getLsbD_setBit]
    grind

theorem getLsbD_csr5AfterReturn_low {c : BitVec 22} (h : c.getLsbD 19 = false) (hl : c.getLsbD 18 = true) (j : Nat) :
    (csr5AfterReturn c).getLsbD j = if j = 18 ∨ j = 21 then false else if j = 16 ∨ j = 17 then true
      else c.getLsbD j := by
  simp only [csr5AfterReturn, h, hl, if_true, Bool.false_eq_true, if_false, getLsbD_setBit]
  grind

theorem csr5AfterReturn_none {c : BitVec 22} (h : c.getLsbD 19 = false) (hl : c.getLsbD 18 = false) :
    csr5AfterReturn c = c := by
  simp only [csr5AfterReturn, h, hl, Bool.false_eq_true, if_false]

section
variable (s : State)

theorem State.applyReset_gieh : s.applyReset.gieh = true := by
  simp [State.gieh]

theorem State.applyReset_giel : s.applyReset.giel = true := by
  simp [State.giel]

theorem State.applyReset_bit20 : s.applyReset.csr5.getLsbD 20 = false := by
  simp

end

end Sys2Proof.Machine

namespace Sys2Proof

open Sys2Proof.Machine Sys2Proof.Claims

/-- Settles O49: held before the events, the watchdog is held after them. -/
theorem disabledWatchdogNeverResets : Obligations.DisabledWatchdogNeverResets := by
  unfold Obligations.DisabledWatchdogNeverResets
  intro s hw
  have held := atBoundary_held hw
  have ⟨_, divider, count, pcRst⟩ := held
  refine ⟨divider, count, pcRst, resetDue_of_held held, fun t ht => ?_⟩
  have shape := step_cases_of_disabled hw ht
  refine ⟨?_, shape⟩
  rw [← s.atBoundary_envFrame.epoch]
  obtain ⟨l, rfl⟩ | ⟨i, hi⟩ := shape
  · exact State.enterInterrupt_epoch _ l
  · exact exec_epoch hi

/-! ### The status bits (R158) -/

section
variable {s t : State}

theorem exec_bit20 {i : Instr} (h : exec i s = .next t) : t.csr5.getLsbD 20 = s.csr5.getLsbD 20 := by
  by_cases hi : i = .iret
  · subst hi
    exact (exec_csrs_of_not_writesCsr rfl h).2.2.2.2.2.2.2.2.2.1
  · exact exec_status_bit hi h (by decide)

theorem step_bit20 (h : step s = .next t) (hs : s.Bit20Clear) : t.Bit20Clear := by
  have hb : s.atBoundary.csr5.getLsbD 20 = false := (s.atBoundary_csr5_bit (by decide)).trans hs
  rcases step_cases h with ⟨-, -, rfl⟩ | ⟨-, -, rfl⟩ | ⟨-, -, l, -, rfl⟩ | ⟨-, -, -, i, -, hi⟩
  · exact State.applyReset_bit20 _
  · exact State.applyReset_bit20 _
  · rw [State.Bit20Clear, State.enterInterrupt_csr5]
    cases l
    · rw [getLsbD_csr5AfterEntry_high]; exact hb
    · rw [getLsbD_csr5AfterEntry_low]; exact hb
  · exact (exec_bit20 hi).trans hb

theorem enterInterrupt_nestedInLow (hs : s.NestedInLow) (l : Level) : (s.enterInterrupt l).NestedInLow := by
  unfold State.NestedInLow State.nested State.lowActive at hs ⊢
  rw [State.enterInterrupt_csr5]
  cases l
  · simp only [getLsbD_csr5AfterEntry_high]
    grind
  · simp only [getLsbD_csr5AfterEntry_low]
    grind

theorem exec_nestedInLow {i : Instr} (hs : s.NestedInLow) (h : exec i s = .next t) : t.NestedInLow := by
  unfold State.NestedInLow State.nested State.lowActive at hs ⊢
  by_cases hi : i = .iret
  · subst hi
    obtain ⟨-, rfl⟩ := State.returnFromInterrupt_cases h
    rw [State.jump_csr5, State.setFlags_csr5]
    cases h19 : s.csr5.getLsbD 19
    · cases h18 : s.csr5.getLsbD 18
      · rw [csr5AfterReturn_none h19 h18]
        exact hs
      · rw [getLsbD_csr5AfterReturn_low h19 h18]
        nofun
    · rw [getLsbD_csr5AfterReturn_high h19, getLsbD_csr5AfterReturn_high h19]
      exact hs
  · rwa [exec_status_bit hi h (by decide), exec_status_bit hi h (by decide)]

theorem step_nestedInLow (hw : s.watchdogEnabled = false) (h : step s = .next t) (hs : s.NestedInLow) :
    t.NestedInLow := by
  have hb : s.atBoundary.NestedInLow := by
    unfold State.NestedInLow State.nested State.lowActive at hs ⊢
    rwa [s.atBoundary_csr5_bit (by decide), s.atBoundary_csr5_bit (by decide)]
  obtain ⟨l, rfl⟩ | ⟨i, hi⟩ := step_cases_of_disabled hw h
  · exact enterInterrupt_nestedInLow hb l
  · exact exec_nestedInLow hb hi

end

/-- Settles O60: bit 20 by the step's four shapes, nesting by the two that a disabled watchdog leaves. -/
theorem stepKeepsInterruptStatus : Obligations.StepKeepsInterruptStatus := by
  unfold Obligations.StepKeepsInterruptStatus
  exact fun s t h => ⟨step_bit20 h, fun hw => step_nestedInLow hw h⟩

/-- Settles O59: the reset state is a closed term. -/
theorem resetMeetsInvariants : Obligations.ResetMeetsInvariants := by
  unfold Obligations.ResetMeetsInvariants
  exact ⟨by decide, ⟨List.Pairwise.nil, List.Pairwise.nil⟩, rfl, nofun, rfl⟩

/-! ### Interrupt entries (R155, R160 to R165) -/

section
variable (s : State)

theorem getLsbD_packFlags (l : FlagsLayout) (e g : Bool) (j : Nat) : (packFlags l e g).getLsbD j =
    if j = l.gtBit.toNat then g else if j = l.eqBit.toNat then e else false := by
  have heq := l.eqBit.isLt
  have hgt := l.gtBit.isLt
  simp only [packFlags, getLsbD_setBit, BitVec.getLsbD_zero]
  grind

theorem unpackEq_packFlags {l : FlagsLayout} (h : l.eqBit ≠ l.gtBit) (e g : Bool) :
    unpackEq l (packFlags l e g) = e := by
  have ne : l.eqBit.toNat ≠ l.gtBit.toNat := fun h' => h (BitVec.eq_of_toNat_eq h')
  rw [unpackEq, getLsbD_packFlags, if_neg ne, if_pos rfl]

theorem unpackGt_packFlags (l : FlagsLayout) (e g : Bool) : unpackGt l (packFlags l e g) = g := by
  rw [unpackGt, getLsbD_packFlags, if_pos rfl]

theorem dueInterrupt_high (hp : s.pinHigh = true) (hg : s.gieh = true) : s.dueInterrupt = some .high := by
  simp [State.dueInterrupt, hp, hg]

theorem dueInterrupt_low (hp : s.pinLow = true) (hg : s.giel = true) : s.dueInterrupt = some .low := by
  have high : s.pinHigh = false := Bool.eq_false_iff.2 (s.pinLow_iff.1 hp).2
  simp [State.dueInterrupt, hp, hg, high]

theorem takenInterrupt_of_idle (hb : s.bus = .idle) : s.takenInterrupt true = s.dueInterrupt := by
  simp [State.takenInterrupt, hb]

variable {s}

/-- An entry that is due at a sampled boundary is the step (R160). -/
theorem step_of_due {l : Level} (hr : s.atBoundary.resetDue = false) (hh : s.halted = false) (hb : s.bus = .idle)
    (hs : s.boundary.samples = true) (hd : s.atBoundary.dueInterrupt = some l) :
    step s = .next (s.atBoundary.enterInterrupt l) := by
  have taken : s.atBoundary.takenInterrupt s.boundary.samples = some l := by
    rw [hs, takenInterrupt_of_idle _ (s.atBoundary_envFrame.bus.trans hb), hd]
  simp only [step, hh, hr, taken, Bool.false_eq_true, if_false]

theorem enterInterrupt_reg_other (l : Level) {r : Reg} (h12 : r ≠ 12#4) (h13 : r ≠ 13#4) :
    (s.enterInterrupt l).reg r = s.reg r := by
  rw [State.enterInterrupt_reg, if_neg h13, if_neg h12]

end

/-- Settles O44. -/
theorem highInterruptEntry : Obligations.HighInterruptEntry := by
  unfold Obligations.HighInterruptEntry
  intro s hr hh hb hs hp hg
  have frame := s.atBoundary_envFrame
  refine ⟨_, step_of_due hr hh hb hs (dueInterrupt_high _ hp hg), ?_⟩
  rw [← frame.pc, ← frame.flagEq, ← frame.flagGt, ← frame.cfg]
  have reg : ∀ r, s.reg r = s.atBoundary.reg r := fun r => (State.reg_congr frame.regs r).symm
  simp only [reg]
  generalize s.atBoundary = u
  refine ⟨?r12, ?r13, fun r h12 h13 => enterInterrupt_reg_other .high h12 h13, rfl, ?_⟩
  case r12 => rw [State.enterInterrupt_reg]; rfl
  case r13 =>
    intro j _
    rw [State.enterInterrupt_reg, if_pos rfl, getLsbD_packFlags]
  simp only [State.gieh, State.giel, State.highActive, State.lowActive, State.nested, State.enterInterrupt_csr5,
    getLsbD_csr5AfterEntry_high]
  refine ⟨rfl, rfl, rfl, rfl, rfl, fun j hj => ?_, rfl⟩
  grind

/-- Settles O45. -/
theorem lowInterruptEntry : Obligations.LowInterruptEntry := by
  unfold Obligations.LowInterruptEntry
  intro s hr hh hb hs hp hg
  have frame := s.atBoundary_envFrame
  refine ⟨_, step_of_due hr hh hb hs (dueInterrupt_low _ hp hg), ?_⟩
  rw [← frame.pc, ← frame.flagEq, ← frame.flagGt, ← frame.cfg]
  have reg : ∀ r, s.reg r = s.atBoundary.reg r := fun r => (State.reg_congr frame.regs r).symm
  simp only [reg]
  generalize s.atBoundary = u
  refine ⟨?r12, ?r13, fun r h12 h13 => enterInterrupt_reg_other .low h12 h13, rfl, ?_⟩
  case r12 => rw [State.enterInterrupt_reg]; rfl
  case r13 => rw [State.enterInterrupt_reg, if_pos rfl]
  simp only [State.gieh, State.giel, State.highActive, State.lowActive, State.nested, State.enterInterrupt_csr5,
    getLsbD_csr5AfterEntry_low]
  refine ⟨rfl, rfl, rfl, rfl, rfl, fun j hj => ?_, rfl⟩
  grind

theorem takenInterrupt_eq_none {s : State} (hh : s.pinHigh = true → s.gieh = false)
    (hl : s.pinLow = true → s.giel = false) (b : Bool) : s.takenInterrupt b = none := by
  have due : s.dueInterrupt = none := by
    unfold State.dueInterrupt
    grind
  simp [State.takenInterrupt, due]

/-- Settles O46. -/
theorem globalEnablesGateEntries : Obligations.GlobalEnablesGateEntries := by
  unfold Obligations.GlobalEnablesGateEntries
  intro s b
  refine ⟨fun hh hl => takenInterrupt_eq_none hh hl b, ?_, ?_, fun hb => ?_⟩
  · have gieh : (s.enterInterrupt .high).gieh = false := getLsbD_csr5AfterEntry_high s.csr5 17
    have giel : (s.enterInterrupt .high).giel = false := getLsbD_csr5AfterEntry_high s.csr5 16
    exact takenInterrupt_eq_none (fun _ => gieh) (fun _ => giel) b
  · have giel : (s.enterInterrupt .low).giel = false := getLsbD_csr5AfterEntry_low s.csr5 16
    unfold State.takenInterrupt State.dueInterrupt
    grind
  · simp [State.takenInterrupt, hb]

/-- Return undoes the marks of an entry from outside any handler with both global enables set (R132, R161, R162). -/
theorem csr5AfterReturn_csr5AfterEntry (l : Level) {c : BitVec 22} (h19 : c.getLsbD 19 = false)
    (h18 : c.getLsbD 18 = false) (h21 : c.getLsbD 21 = false) (h17 : c.getLsbD 17 = true) (h16 : c.getLsbD 16 = true) :
    csr5AfterReturn (csr5AfterEntry l c) = c := by
  apply BitVec.eq_of_getLsbD_eq
  intro j hj
  cases l with
  | high =>
    have marked : (csr5AfterEntry .high c).getLsbD 19 = true := getLsbD_csr5AfterEntry_high c 19
    simp only [getLsbD_csr5AfterReturn_high marked, getLsbD_csr5AfterEntry_high]
    grind
  | low =>
    have marked : (csr5AfterEntry .low c).getLsbD 18 = true := getLsbD_csr5AfterEntry_low c 18
    have high : (csr5AfterEntry .low c).getLsbD 19 = false := (getLsbD_csr5AfterEntry_low c 19).trans h19
    simp only [getLsbD_csr5AfterReturn_low high marked, getLsbD_csr5AfterEntry_low]
    grind

/-- Settles O47. -/
theorem entryThenIretRestores : Obligations.EntryThenIretRestores := by
  unfold Obligations.EntryThenIretRestores
  intro s l hc hp
  obtain ⟨-, -, -, -, -, -, flags, -, -, -⟩ := hc
  have r12 : (s.enterInterrupt l).reg 12#4 = s.pc := by rw [State.enterInterrupt_reg]; rfl
  have r13 : (s.enterInterrupt l).reg 13#4 = packFlags s.cfg.flagsLayout s.flagEq s.flagGt := by
    rw [State.enterInterrupt_reg, if_pos rfl]
  have aligned : pcAligned (s.enterInterrupt l).cfg ((s.enterInterrupt l).reg 12#4) = true := by rw [r12]; exact hp
  refine ⟨_, State.returnFromInterrupt_of_aligned aligned, r12, ?_, ?_, ?_, rfl, ?_⟩
  · rw [State.jump_flagEq, State.setFlags_flagEq, r13]
    exact unpackEq_packFlags flags ..
  · rw [State.jump_flagGt, State.setFlags_flagGt, r13]
    exact unpackGt_packFlags ..
  · exact fun r h12 h13 => enterInterrupt_reg_other l h12 h13
  · exact csr5AfterReturn_csr5AfterEntry l

/-! ### Reset and halt (R130, R184, R260, R262) -/

/-- Settles O48. -/
theorem resetLeavesStatedValues : Obligations.ResetLeavesStatedValues := by
  unfold Obligations.ResetLeavesStatedValues
  refine ⟨fun u => ⟨rfl, rfl, u.applyReset_gieh, u.applyReset_giel, rfl, rfl, rfl, rfl, rfl, fun j hj => ?_,
    rfl, rfl, rfl, rfl, rfl⟩, State.blank Config.default, rfl, rfl⟩
  have mask : (0x0FF#11).getLsbD j = false := by
    by_cases hlt : j < 11
    · exact (by decide : ∀ k < 11, 8 ≤ k → (0x0FF#11).getLsbD k = false) j hlt hj
    · exact BitVec.getLsbD_of_ge _ _ (by omega)
  change (u.csr2 &&& 0x0FF#11).getLsbD j = false
  rw [BitVec.getLsbD_and, mask, Bool.and_false]

theorem step_of_halted {s : State} (hh : s.halted = true) (hw : s.watchdogEnabled = true) :
    step s = .next s.atBoundary.watchdogReset := by
  simp only [step, hh, hw, if_true]

/-- Settles O36. -/
theorem hltNopAndHaltedSteps : Obligations.HltNopAndHaltedSteps := by
  unfold Obligations.HltNopAndHaltedSteps
  intro s
  refine ⟨⟨_, rfl, rfl, rfl, fun _ => rfl⟩, rfl, fun hh hw => ?_, fun hh hw => ⟨_, step_of_halted hh hw, ?_⟩⟩
  · simp only [step, hh, hw, if_true, Bool.false_eq_true, if_false]
  · have frame := s.atBoundary_envFrame
    rw [← frame.epoch, ← frame.cfg, ← frame.imem]
    exact ⟨State.watchdogReset_epoch, State.watchdogReset_halted, State.watchdogReset_pc, State.applyReset_gieh _,
      State.applyReset_giel _, State.watchdogReset_ram, State.watchdogReset_imem, State.watchdogReset_cfg⟩

end Sys2Proof
end

section
/-!
PROOFS. Arithmetic, logic, move, shift, compare and control transfer (spec/40_alu.md, spec/41_shift.md, spec/43_branch.md,
spec/44_system.md R132): the value of each result, and the frame they share.
-/

namespace Sys2Proof.Machine

open Sys2Proof.Claims

section
variable {s : State} {i : Instr}

/-! ### The frames -/

/-- An instruction whose meaning is one register write has the frame of R89. -/
theorem writes_of_writeResult {rd : Reg} {v : Word} {P : Word → Prop} (h : exec i s = s.writeResult rd v) (hP : P v) :
    Writes i s rd P := by
  refine ⟨_, h, ?_, fun r hr => ?_, rfl, rfl, fun _ => rfl⟩
  · rwa [State.advance_reg, State.setReg_reg_self]
  · rw [State.advance_reg, State.setReg_reg_of_ne _ _ hr]

theorem jumps_of_jump {a b : Word} (h : exec i s = .next (s.jump a)) (hab : a = b) : Jumps i s b :=
  ⟨_, h, hab, rfl, fun _ => rfl⟩

/-! ### Shift amounts (R100) -/

theorem shiftAmount_low5 (b : Word) : shiftAmount .low5 b = shiftBy .low5 b := by
  rw [shiftAmount, shiftBy, BitVec.extractLsb'_toNat, Nat.shiftRight_zero]

/-- Under `full` an amount of 32 or more has the same effect as 32. -/
theorem shiftAmount_full (b : Word) : shiftAmount .full b = min (shiftBy .full b) 32 := rfl

theorem shiftBy_low5_lt (b : Word) : shiftBy .low5 b < 32 := Nat.mod_lt _ (by decide)

/-- The two amounts are one, or both are past the word. -/
theorem shiftAmount_cases (m : ShamtMode) (b : Word) :
    shiftAmount m b = shiftBy m b ∨ (shiftAmount m b = 32 ∧ 32 ≤ shiftBy m b) := by
  cases m with
  | low5 => exact .inl (shiftAmount_low5 b)
  | full =>
    rw [shiftAmount_full]
    omega

theorem toNat_shiftLeft_shiftAmount (x b : Word) (m : ShamtMode) :
    (x <<< shiftAmount m b).toNat = x.toNat * 2 ^ shiftBy m b % 2 ^ 32 := by
  rw [BitVec.toNat_shiftLeft, Nat.shiftLeft_eq]
  rcases shiftAmount_cases m b with eq | ⟨eq, ge⟩
  · rw [eq]
  · rw [eq, Nat.mul_mod_left, Nat.mod_eq_zero_of_dvd (Dvd.dvd.mul_left (Nat.pow_dvd_pow 2 ge) _)]

theorem toNat_ushiftRight_shiftAmount (x b : Word) (m : ShamtMode) :
    (x >>> shiftAmount m b).toNat = x.toNat / 2 ^ shiftBy m b := by
  rw [BitVec.toNat_ushiftRight, Nat.shiftRight_eq_div_pow]
  rcases shiftAmount_cases m b with eq | ⟨eq, ge⟩
  · rw [eq]
  · have past : 2 ^ 32 ≤ 2 ^ shiftBy m b := Nat.pow_le_pow_right (by decide) ge
    rw [eq, Nat.div_eq_of_lt x.isLt, Nat.div_eq_of_lt (Nat.lt_of_lt_of_le x.isLt past)]

/-- Past the word an arithmetic shift leaves the sign alone. -/
theorem toInt_ediv_pow_of_le (x : Word) {n : Nat} (h : 32 ≤ n) : x.toInt / 2 ^ n = x.toInt / 2 ^ 32 := by
  have past : (2 : Int) ^ 32 ≤ 2 ^ n := by exact_mod_cast Nat.pow_le_pow_right (by decide) h
  have lower := BitVec.le_toInt x
  have upper := BitVec.toInt_lt (x := x)
  rcases Int.lt_or_le x.toInt 0 with neg | nonneg
  · have eq : ∀ p : Int, 2 ^ 32 ≤ p → x.toInt / p = -1 := by
      intro p hp
      rw [Int.ediv_eq_iff_of_pos (by omega)]
      omega
    rw [eq _ past, eq _ (le_refl _)]
  · rw [Int.ediv_eq_zero_of_lt nonneg (by omega), Int.ediv_eq_zero_of_lt nonneg (by omega)]

theorem toInt_sshiftRight_shiftAmount (x b : Word) (m : ShamtMode) :
    (x.sshiftRight (shiftAmount m b)).toInt = x.toInt / 2 ^ shiftBy m b := by
  rw [BitVec.toInt_sshiftRight, Int.shiftRight_eq_div_pow]
  rcases shiftAmount_cases m b with eq | ⟨eq, ge⟩
  · rw [eq]; rfl
  · rw [eq, toInt_ediv_pow_of_le x ge]; rfl

/-! ### Differences, flags, targets -/

theorem toNat_sub_eq_emod (x y : Word) : ((x - y).toNat : Int) = ((x.toNat : Int) - y.toNat) % 2 ^ 32 := by
  bv_omega

/-- EQ and GT are never both set by a comparison (R97). -/
theorem not_compareEq_and_compareGt (a b : Word) : ¬(compareEq a b = true ∧ compareGt a b = true) := by
  rintro ⟨he, hg⟩
  rw [compareEq, beq_iff_eq] at he
  rw [compareGt, decide_eq_true_eq, he] at hg
  exact lt_irrefl _ hg

theorem writesFlags_of_compare {a b : Word} (h : exec i s = s.compare a b) :
    WritesFlags i s (decide (a = b)) (decide (b.toInt < a.toInt)) :=
  ⟨_, h, rfl, rfl, rfl, rfl, fun _ => rfl⟩

theorem toNat_pcStep_toWord (p : PcStep) : p.toWord.toNat = p.toNat := by
  cases p <;> rfl

/-- The branch target in exact integers (R120). -/
theorem State.branchTarget_eq_ofInt (o : BitVec 27) :
    s.branchTarget o = BitVec.ofInt 32 (s.pc.toNat + o.toInt * s.cfg.pcStep.toNat) := by
  rw [BitVec.ofInt_add, BitVec.ofInt_mul, BitVec.ofInt_natCast, BitVec.ofInt_natCast, BitVec.ofNat_toNat,
    BitVec.setWidth_eq]
  rfl

end

end Sys2Proof.Machine

namespace Sys2Proof

open Sys2Proof.Machine Sys2Proof.Claims

/-- Settles O9. -/
theorem addSubResult : Obligations.AddSubResult := by
  unfold Obligations.AddSubResult
  exact fun s rd rs1 rs2 m v => ⟨writes_of_writeResult rfl (BitVec.toNat_add ..),
    writes_of_writeResult rfl (BitVec.toNat_add ..), writes_of_writeResult rfl (toNat_sub_eq_emod ..),
    writes_of_writeResult rfl (toNat_sub_eq_emod ..)⟩

/-- Settles O10. -/
theorem logicResult : Obligations.LogicResult := by
  unfold Obligations.LogicResult
  exact fun s rd rs1 rs2 m v => ⟨writes_of_writeResult rfl fun _ => BitVec.getLsbD_xor,
    writes_of_writeResult rfl fun _ => BitVec.getLsbD_xor, writes_of_writeResult rfl fun _ => BitVec.getLsbD_and,
    writes_of_writeResult rfl fun _ => BitVec.getLsbD_and, writes_of_writeResult rfl fun _ => BitVec.getLsbD_or,
    writes_of_writeResult rfl fun _ => BitVec.getLsbD_or⟩

theorem getLsbD_complement (x : Word) {j : Nat} (hj : j < 32) : (~~~x).getLsbD j = !x.getLsbD j := by
  rw [BitVec.getLsbD_not, decide_eq_true hj, Bool.true_and]

/-- Settles O11. -/
theorem notMovResult : Obligations.NotMovResult := by
  unfold Obligations.NotMovResult
  exact fun s rd rs2 m v => ⟨writes_of_writeResult rfl fun _ => getLsbD_complement _,
    writes_of_writeResult rfl fun _ => getLsbD_complement _, writes_of_writeResult rfl rfl,
    writes_of_writeResult rfl rfl⟩

/-- Settles O12. -/
theorem shiftLeftResult : Obligations.ShiftLeftResult := by
  unfold Obligations.ShiftLeftResult
  exact fun s rd rs1 rs2 m v => ⟨writes_of_writeResult rfl (toNat_shiftLeft_shiftAmount ..),
    writes_of_writeResult rfl (toNat_shiftLeft_shiftAmount ..),
    writes_of_writeResult rfl (toNat_shiftLeft_shiftAmount ..),
    writes_of_writeResult rfl (toNat_shiftLeft_shiftAmount ..)⟩

/-- Settles O13. -/
theorem shiftRightResult : Obligations.ShiftRightResult := by
  unfold Obligations.ShiftRightResult
  exact fun s rd rs1 rs2 m v => ⟨writes_of_writeResult rfl (toNat_ushiftRight_shiftAmount ..),
    writes_of_writeResult rfl (toNat_ushiftRight_shiftAmount ..),
    writes_of_writeResult rfl (toInt_sshiftRight_shiftAmount ..),
    writes_of_writeResult rfl (toInt_sshiftRight_shiftAmount ..)⟩

/-- Settles O14. -/
theorem compareFlags : Obligations.CompareFlags := by
  unfold Obligations.CompareFlags
  intro s rs1 rs2 m v
  refine ⟨writesFlags_of_compare rfl, writesFlags_of_compare rfl, ?_⟩
  rintro i t (rfl | rfl) h
  · rw [State.compare_next.1 h]
    exact not_compareEq_and_compareGt _ _
  · rw [State.compare_next.1 h]
    exact not_compareEq_and_compareGt _ _

/-- Settles O34. -/
theorem branchTargets : Obligations.BranchTargets := by
  unfold Obligations.BranchTargets
  intro s o
  rw [← State.branchTarget_eq_ofInt]
  exact ⟨jumps_of_jump rfl rfl, jumps_of_jump rfl rfl, jumps_of_jump rfl rfl⟩

/-- Settles O35. -/
theorem callAndRet : Obligations.CallAndRet := by
  unfold Obligations.CallAndRet
  intro s o
  rw [← State.branchTarget_eq_ofInt]
  refine ⟨⟨_, rfl, ?_, fun r hr => ?_, rfl, rfl, fun _ => rfl⟩, fun ha => ?_, fun ha => ?_⟩
  · rw [State.jump_reg, State.setReg_reg_self]
    rfl
  · rw [State.jump_reg, State.setReg_reg_of_ne _ _ hr]
  · exact jumps_of_jump (execRet_of_aligned (beq_iff_eq.2 ha)) rfl
  · exact execRet_of_misaligned (beq_eq_false_iff_ne.2 ha)

/-- Settles O37: the marks of `csr[5]` by the level that ends. -/
theorem iretRestores : Obligations.IretRestores := by
  unfold Obligations.IretRestores
  intro s
  refine ⟨fun ha => State.returnFromInterrupt_of_misaligned (beq_eq_false_iff_ne.2 ha), fun ha => ?_⟩
  refine ⟨_, State.returnFromInterrupt_of_aligned (beq_iff_eq.2 ha), rfl, rfl, rfl,
    fun j hj => getLsbD_csr5AfterReturn (.inl hj), getLsbD_csr5AfterReturn (.inr rfl), fun high => ?_, fun high low => ?_,
    fun high low => csr5AfterReturn_none high low, rfl, fun _ => rfl⟩
  · simp only [State.highActive, State.gieh, State.lowActive, State.nested, State.giel, State.jump_csr5,
      State.setFlags_csr5, getLsbD_csr5AfterReturn_high high]
    exact ⟨rfl, rfl, rfl, rfl, rfl⟩
  · simp only [State.highActive, State.gieh, State.lowActive, State.nested, State.giel, State.jump_csr5,
      State.setFlags_csr5, getLsbD_csr5AfterReturn_low high low]
    exact ⟨high, rfl, rfl, rfl, rfl⟩

end Sys2Proof
end

section
/-!
PROOFS. Fetch (spec/20_memory.md R41, spec/10_state.md R15, R16) and the CSR file (spec/10_state.md R19 to R27,
spec/44_system.md R134, R136, R137).
-/

namespace Sys2Proof.Machine

open Sys2Proof.Claims

/-! ### Fetch, one equation for each outcome -/

section
variable {s : State} {bs : List Byte}

theorem fetchBytes_of_misaligned (h : pcAligned s.cfg s.pc = false) : s.fetchBytes = .error .misalignedPc :=
  if_neg (Bool.eq_false_iff.1 h)

theorem fetchBytes_of_outOfRange (h : pcAligned s.cfg s.pc = true) (hr : s.cfg.imemWords ≤ wordIndex s.cfg s.pc) :
    s.fetchBytes = .error .fetchOutOfRange := by
  rw [State.fetchBytes, if_pos h, if_neg (Nat.not_lt.2 hr)]

theorem fetchBytes_of_unwritten (h : pcAligned s.cfg s.pc = true) (hr : wordIndex s.cfg s.pc < s.cfg.imemWords)
    (hw : s.imem.wordLanes (wordIndex s.cfg s.pc) = none) : s.fetchBytes = .error .fetchUnwritten := by
  simp only [State.fetchBytes, h, hr, hw, if_true]

theorem fetchBytes_of_written (h : pcAligned s.cfg s.pc = true) (hr : wordIndex s.cfg s.pc < s.cfg.imemWords)
    (hw : s.imem.wordLanes (wordIndex s.cfg s.pc) = some bs) : s.fetchBytes = .ok bs := by
  simp only [State.fetchBytes, h, hr, hw, if_true]

theorem fetchInstr_of_error {f : Fault} (h : s.fetchBytes = .error f) : s.fetchInstr = .error f := by
  simp only [State.fetchInstr, h]

theorem fetchInstr_of_decodes {i : Instr} (h : s.fetchBytes = .ok bs) (hd : decodeBytes s.cfg.unusedBits bs = .ok i) :
    s.fetchInstr = .ok i := by
  simp only [State.fetchInstr, h, hd]

theorem fetchInstr_of_decode_error {e : DecodeError} (h : s.fetchBytes = .ok bs)
    (hd : decodeBytes s.cfg.unusedBits bs = .error e) : s.fetchInstr = .error (decodeFault e) := by
  simp only [State.fetchInstr, h, hd]

/-! ### The step that reaches the fetch (R6 item 5) -/

theorem step_of_reachesFetch (h : ReachesFetch s) {i : Instr} (hi : s.atBoundary.fetchInstr = .ok i) :
    step s = exec i s.atBoundary := by
  obtain ⟨hh, hr, ht⟩ := h
  simp only [step, hh, hr, ht, hi, Bool.false_eq_true, if_false]

theorem step_of_fetch_error (h : ReachesFetch s) {f : Fault} (hf : s.atBoundary.fetchInstr = .error f) :
    step s = .fault f := by
  obtain ⟨hh, hr, ht⟩ := h
  simp only [step, hh, hr, ht, hf, Bool.false_eq_true, if_false]

/-- With no input left the boundary moves the watchdog alone. -/
theorem atBoundary_of_no_inputs (h : s.inputs = []) : s.atBoundary = { s with wdt := s.atBoundary.wdt } := by
  have drop : s.dropInput = s := by rw [State.dropInput, h, List.tail_nil, ← h]
  have quiet : s.boundary.events = [] := by rw [State.boundary, h]; rfl
  rw [State.atBoundary, quiet, drop, State.applyEvents_nil, State.stallCycle_frame, State.holdWatchdog_frame]
  rfl

end

/-- No word is too short (R60). -/
theorem decode_ne_truncated (p : UnusedBits) (w : Word) : decode p w ≠ .error .truncated := by
  intro h
  have fields : decodeFields w = .error .truncated ∨ ∃ i, decodeFields w = .ok i := by
    cases hd : decodeFields w with
    | ok i => exact .inr ⟨i, rfl⟩
    | error e =>
      rw [decode, hd] at h
      cases h
      exact .inl rfl
  rcases fields with hd | ⟨i, hd⟩
  · exact (refusedWordsAreNamed w).2.2.2.2.2.2 ((decode_ignore w).trans hd)
  · rw [decode, hd] at h
    cases p with
    | ignore => cases h
    | refuse =>
      dsimp only at h
      split at h <;> cases h

/-! ### The CSRs, bit by bit -/

section
variable (s : State) (c : Csr)

/-- A CSR has no bits past its own (R19). -/
theorem getLsbD_csrStored_of_le {j : Nat} (h : csrBits c ≤ j) : (s.csrStored c).getLsbD j = false := by
  cases c <;>
    exact (BitVec.getLsbD_setWidth ..).trans (Bool.and_eq_false_iff.2 (.inr (BitVec.getLsbD_of_ge _ _ h)))

theorem getLsbD_csrStored_setCsrStored (w : Word) {j : Nat} (hj : j < 32) :
    ((s.setCsrStored c w).csrStored c).getLsbD j = (decide (j < csrBits c) && w.getLsbD j) := by
  cases c <;>
    simp only [State.setCsrStored, State.csrStored, BitVec.getLsbD_setWidth, hj, decide_true, Bool.true_and] <;> rfl

theorem csrStored_setCsrStored_other {d : Csr} (h : d ≠ c) (w : Word) :
    (s.setCsrStored c w).csrStored d = s.csrStored d := by
  cases c <;> cases d <;> first | rfl | exact absurd rfl h

theorem csrFrame_setCsrStored (w : Word) : CsrFrame s (s.setCsrStored c w).advance c := by
  refine ⟨fun d hd => ?_, ?_, ?_, fun _ => ?_⟩
  · exact csrStored_setCsrStored_other s c hd w
  · cases c <;> rfl
  · cases c <;> rfl
  · cases c <;> rfl

end

theorem getLsbD_settable (c : Csr) {j : Nat} (hj : j < 32) : c.settable.getLsbD j = settableBit c j := by
  revert j
  cases c <;> decide

theorem getLsbD_clearable (c : Csr) {j : Nat} (hj : j < 32) : c.clearable.getLsbD j = clearableBit c j := by
  revert j
  cases c <;> decide

theorem getLsbD_placeMask (h : Half) (v : BitVec 16) (j : Nat) : (placeMask h v).getLsbD j = maskBit h v j := by
  cases h with
  | lower => 
    rw [placeMask, maskBit, BitVec.getLsbD_append]
    grind
  | upper =>
    rw [placeMask, maskBit, BitVec.getLsbD_append]
    grind

theorem getLsbD_0xFFFF (j : Nat) : (0xFFFF#16).getLsbD j = decide (j < 16) := by
  rw [show 0xFFFF#16 = BitVec.allOnes 16 from rfl, BitVec.getLsbD_allOnes]

/-- The operand of a clear has zeros at the bits the field marks, under either polarity, and ones elsewhere (R137). -/
theorem getLsbD_clearOperand (p : ClearPolarity) (h : Half) (v : BitVec 16) {j : Nat} (hj : j < 32) :
    (clearOperand p h v).getLsbD j = !(inHalf h j && (maskBit h v j == decide (p = .selectMask))) := by
  cases p with
  | andMask =>
    cases h with
    | lower =>
      rw [clearOperand, maskBit, inHalf, BitVec.getLsbD_append, getLsbD_0xFFFF]
      grind
    | upper =>
      rw [clearOperand, maskBit, inHalf, BitVec.getLsbD_append, getLsbD_0xFFFF]
      grind
  | selectMask =>
    have inside : maskBit h v j = true → inHalf h j = true := by
      cases h with
      | lower => simp only [maskBit, inHalf]; grind
      | upper => simp only [maskBit, inHalf]; grind
    rw [clearOperand, BitVec.getLsbD_not, getLsbD_placeMask]
    grind

theorem exec_csrSetOf (h : Half) (k : BitVec 4) (v : BitVec 16) (s : State) :
    exec (csrSetOf h k v) s = s.csrSet (Instr.csrIndex s.cfg (csrSetOf h k v)) h v := by
  cases h <;> rfl

theorem exec_csrClearOf (h : Half) (k : BitVec 4) (v : BitVec 16) (s : State) :
    exec (csrClearOf h k v) s = s.csrClear (Instr.csrIndex s.cfg (csrClearOf h k v)) h v := by
  cases h <;> rfl

end Sys2Proof.Machine

namespace Sys2Proof

open Sys2Proof.Machine Sys2Proof.Claims

/-- Settles O6. -/
theorem stepRunsDecodedInstruction : Obligations.StepRunsDecodedInstruction := by
  unfold Obligations.StepRunsDecodedInstruction
  intro s bs i h hb hd
  rw [← s.atBoundary_envFrame.cfg] at hd
  exact ⟨step_of_reachesFetch h (fetchInstr_of_decodes hb hd), atBoundary_of_no_inputs⟩

/-- Settles O7. -/
theorem fetchReadsPlacedWord : Obligations.FetchReadsPlacedWord := by
  unfold Obligations.FetchReadsPlacedWord
  intro s w i ha hr hd
  have word : BitVec.ofNat 32 (w.toNat % 2 ^ 32) = w := by
    rw [Nat.mod_eq_of_lt w.isLt, BitVec.ofNat_toNat, BitVec.setWidth_eq]
  have lanes : (s.withFetchWord 32 w.toNat).imem.wordLanes (wordIndex s.cfg s.pc) = some (wordBytes w) := by
    rw [State.withFetchWord, word]
    exact Memory.wordLanes_writeWord ..
  exact fetchInstr_of_decodes (fetchBytes_of_written (s := s.withFetchWord 32 w.toNat) ha hr lanes)
    ((decodeBytes_wordBytes ..).trans hd)

/-- Settles O8. -/
theorem fetchFaultsAreNamed : Obligations.FetchFaultsAreNamed := by
  unfold Obligations.FetchFaultsAreNamed
  intro s h
  have frame := s.atBoundary_envFrame
  rw [← frame.cfg, ← frame.imem]
  refine ⟨fun ha => ?_, fun ha hr => ?_, fun ha hr hw => ?_, fun w e ha hr hw hd => ?_⟩
  · exact step_of_fetch_error h (fetchInstr_of_error (fetchBytes_of_misaligned (beq_eq_false_iff_ne.2 ha)))
  · exact step_of_fetch_error h (fetchInstr_of_error (fetchBytes_of_outOfRange (beq_iff_eq.2 ha) hr))
  · exact step_of_fetch_error h (fetchInstr_of_error (fetchBytes_of_unwritten (beq_iff_eq.2 ha) hr hw))
  · have fault := step_of_fetch_error h (fetchInstr_of_decode_error (fetchBytes_of_written (beq_iff_eq.2 ha) hr hw)
      ((decodeBytes_wordBytes ..).trans hd))
    refine ⟨?_, ?_, ?_, ?_, ?_⟩
    case refine_5 =>
      rintro rfl
      exact decode_ne_truncated _ _ hd
    all_goals
      rintro rfl
      exact fault

/-- Settles O39. -/
theorem lowPendingIsComputed : Obligations.LowPendingIsComputed := by
  unfold Obligations.LowPendingIsComputed
  intro s
  refine ⟨fun c hc => ?_, fun j _ hj => ?_, ?_⟩
  · cases c with
    | intcon => exact absurd rfl hc
    | _ => rfl
  · rw [State.csrRead, getLsbD_setBit, if_neg fun h => hj h.1, State.csrStored]
  · rw [State.csrRead, getLsbD_setBit, if_pos ⟨rfl, by decide⟩, s.anyLow_iff]

/-- A mask that misses the reserved bits, in the form the set tests it (R25). -/
theorem placeMask_and_reserved_eq_zero_iff (h : Half) (v : BitVec 16) (c : Csr) :
    placeMask h v &&& ~~~c.present = 0#32 ↔ ∀ j < 32, maskBit h v j = true → j < csrBits c := by
  have bit : ∀ j < 32, (placeMask h v &&& ~~~c.present).getLsbD j = (maskBit h v j && !decide (j < csrBits c)) := by
    intro j hj
    rw [BitVec.getLsbD_and, BitVec.getLsbD_not, getLsbD_placeMask, getLsbD_present, decide_eq_true hj, Bool.true_and]
  constructor
  · intro hz j hj hm
    have zero := bit j hj
    rw [hz, BitVec.getLsbD_zero, hm] at zero
    grind
  · intro hm
    apply BitVec.eq_of_getLsbD_eq
    intro j hj
    rw [bit j hj, BitVec.getLsbD_zero]
    grind

section
variable {s : State} {k : BitVec 4} {h : Half} {v : BitVec 16} {c : Csr}

theorem csrSet_of_inside (hc : csrAt s.cfg k = some c) (hm : ∀ j < 32, maskBit h v j = true → j < csrBits c) :
    s.csrSet k h v = .next (s.setCsrStored c (s.csrStored c ||| (placeMask h v &&& c.settable))).advance := by
  simp only [State.csrSet, hc, (placeMask_and_reserved_eq_zero_iff h v c).2 hm, if_true]

theorem csrSet_of_reserved (hc : csrAt s.cfg k = some c) {j : Nat} (hj : j < 32) (hm : maskBit h v j = true)
    (hr : csrBits c ≤ j) : s.csrSet k h v = .refused .reservedCsrBit := by
  have aims : ¬ placeMask h v &&& ~~~c.present = 0#32 := fun hz =>
    Nat.not_lt.2 hr ((placeMask_and_reserved_eq_zero_iff h v c).1 hz j hj hm)
  simp only [State.csrSet, hc, if_neg aims]

theorem csrClear_of_defined (hc : csrAt s.cfg k = some c) : s.csrClear k h v = .next (s.setCsrStored c
    (s.csrStored c &&& (clearOperand s.cfg.clearPolarity h v ||| ~~~c.clearable))).advance := by
  simp only [State.csrClear, hc]

theorem csrTest_of_undefined (hc : csrAt s.cfg k = none) : s.csrTest k h v = .fault .undefinedCsr := by
  simp only [State.csrTest, hc]

theorem csrSet_of_undefined (hc : csrAt s.cfg k = none) : s.csrSet k h v = .fault .undefinedCsr := by
  simp only [State.csrSet, hc]

theorem csrClear_of_undefined (hc : csrAt s.cfg k = none) : s.csrClear k h v = .fault .undefinedCsr := by
  simp only [State.csrClear, hc]

end

/-- A settable or clearable bit exists. -/
theorem lt_csrBits_of_clearableBit {c : Csr} {j : Nat} (h : clearableBit c j = true) : j < csrBits c := by
  cases c <;> simp only [clearableBit, settableBit, csrBits] at h ⊢ <;> grind

theorem lt_csrBits_of_settableBit {c : Csr} {j : Nat} (h : settableBit c j = true) : j < csrBits c := by
  cases c <;> simp only [settableBit, csrBits] at h ⊢ <;> grind

/-- Settles O40. -/
theorem csrSetSetsRwBits : Obligations.CsrSetSetsRwBits := by
  unfold Obligations.CsrSetSetsRwBits
  intro s k h v c hc
  rw [exec_csrSetOf]
  refine ⟨fun hm => ⟨_, csrSet_of_inside hc hm, csrFrame_setCsrStored s c _, fun j hj => ?_⟩,
    fun ⟨j, hj, hm, hr⟩ => csrSet_of_reserved hc hj hm hr⟩
  change ((s.setCsrStored c _).csrStored c).getLsbD j = _
  rw [getLsbD_csrStored_setCsrStored s c _ hj, BitVec.getLsbD_or, BitVec.getLsbD_and, getLsbD_placeMask,
    getLsbD_settable c hj]
  have stored := getLsbD_csrStored_of_le s c (j := j)
  have settable := lt_csrBits_of_settableBit (c := c) (j := j)
  grind

/-- Settles O41. -/
theorem csrClearClearsMarkedBits : Obligations.CsrClearClearsMarkedBits := by
  unfold Obligations.CsrClearClearsMarkedBits
  intro s k h v c hc
  rw [exec_csrClearOf]
  refine ⟨_, csrClear_of_defined hc, csrFrame_setCsrStored s c _, fun j hj => ?_⟩
  change ((s.setCsrStored c _).csrStored c).getLsbD j = _
  rw [getLsbD_csrStored_setCsrStored s c _ hj, BitVec.getLsbD_and, BitVec.getLsbD_or, BitVec.getLsbD_not,
    getLsbD_clearOperand _ h v hj, getLsbD_clearable c hj]
  have stored := getLsbD_csrStored_of_le s c (j := j)
  grind

/-! ### The index of a `csr mov` (R26, R27, R68) -/

theorem csrAt_of_tmcon {c : Config} {k : BitVec 4} (hk : k = 0#4 ∨ 6 ≤ k.toNat) :
    csrAt c k = if c.tmconCsr = some k then some .tmcon else none := by
  have other : k.toNat ∉ [1, 2, 3, 4, 5] := by
    rcases hk with rfl | hk
    · decide
    · simp only [List.mem_cons, List.not_mem_nil, or_false]
      omega
  unfold csrAt
  split <;> simp_all

theorem toNat_csrIndex (c : Config) (w : Word) : (c.csrIndex w).toNat =
    (w.getLsbD c.csrSelect.b3.toNat).toNat * 8 + (w.getLsbD c.csrSelect.b2.toNat).toNat * 4 +
      (w.getLsbD c.csrSelect.b1.toNat).toNat * 2 + (w.getLsbD c.csrSelect.b0.toNat).toNat := by
  unfold Config.csrIndex
  generalize w.getLsbD c.csrSelect.b3.toNat = b3
  generalize w.getLsbD c.csrSelect.b2.toNat = b2
  generalize w.getLsbD c.csrSelect.b1.toNat = b1
  generalize w.getLsbD c.csrSelect.b0.toNat = b0
  revert b3 b2 b1 b0
  decide

theorem csrIndex_of_default {c : Config} (h : c.csrSelect = ⟨25#5, 24#5, 23#5, 22#5⟩) (w : Word) :
    c.csrIndex w = rdField w := by
  rw [← csrIndex_default w, Config.csrIndex, h]
  rfl

/-- Settles O42. -/
theorem undefinedCsrFaults : Obligations.UndefinedCsrFaults := by
  unfold Obligations.UndefinedCsrFaults
  refine ⟨fun c => ⟨rfl, rfl, rfl, rfl, rfl, fun k hk ht => ?_⟩, fun c i => toNat_csrIndex c _, fun c h k v hs => ?_,
    fun s h k v i hi hk ht => ?_⟩
  · rw [csrAt_of_tmcon hk, if_pos ht]
  · simp only [Instr.csrIndex, csrIndex_of_default hs]
    cases h with
    | lower => exact ⟨rdField_encodeCsr .., rdField_encodeCsr .., rdField_encodeCsr ..⟩
    | upper => exact ⟨rdField_encodeCsr .., rdField_encodeCsr .., rdField_encodeCsr ..⟩
  · have none : csrAt s.cfg (i.csrIndex s.cfg) = none := by rw [csrAt_of_tmcon hk, if_neg ht]
    rcases hi with rfl | rfl | rfl
    · exact (exec_csrReadOf ..).trans (csrTest_of_undefined none)
    · exact (exec_csrSetOf ..).trans (csrSet_of_undefined none)
    · exact (exec_csrClearOf ..).trans (csrClear_of_undefined none)

end Sys2Proof
end

section
/-!
PROOFS. Loads and stores (spec/42_load_store.md R110 to R113, spec/20_memory.md R43 to R55) and what each device does with
them (spec/61_devices.md).
-/

namespace Sys2Proof.Machine

open Sys2Proof.Claims

/-! ### The address map (R43, R46) -/

section
variable {c : Config} {a : Word}

theorem isDevice_iff : IsDevice a ↔ a.toNat ∈ [0x00010000, 0x00010001, 0x00010002, 0x00010003, 0x00010004, 0x00010011] := by
  simp [IsDevice, BitVec.toNat_eq]

theorem targetOf_of_not_isDevice (h : ¬ IsDevice a) : targetOf c a = if inRam c a then some .ram else none := by
  rw [isDevice_iff] at h
  unfold targetOf
  split <;> simp_all

theorem inRam_iff : inRam c a = true ↔ c.ramBase.toNat ≤ a.toNat ∧ a.toNat < c.ramBase.toNat + c.ramWords := by
  rw [inRam, Bool.and_eq_true, decide_eq_true_eq, decide_eq_true_eq]

/-- Data memory and the devices are apart in a configuration the spec allows (R3). -/
theorem not_isDevice_of_inDataMemory (h : InDataMemory c a) : ¬ IsDevice a := by
  obtain ⟨⟨-, -, -, apart, -⟩, lower, upper⟩ := h
  rw [isDevice_iff]
  simp only [List.mem_cons, List.not_mem_nil, or_false]
  omega

theorem targetOf_of_inDataMemory (h : InDataMemory c a) : targetOf c a = some .ram := by
  rw [targetOf_of_not_isDevice (not_isDevice_of_inDataMemory h), if_pos (inRam_iff.2 h.2)]

theorem targetOf_of_unmapped (hd : ¬ IsDevice a)
    (hr : ¬(c.ramBase.toNat ≤ a.toNat ∧ a.toNat < c.ramBase.toNat + c.ramWords)) : targetOf c a = none := by
  rw [targetOf_of_not_isDevice hd, if_neg (mt inRam_iff.1 hr)]

theorem targetOf_of_isDevice (h : IsDevice a) : ∃ d, targetOf c a = some d := by
  rcases h with rfl | rfl | rfl | rfl | rfl | rfl <;> exact ⟨_, rfl⟩

end

/-! ### A load or a store at a ready, a busy or no target -/

section
variable {s : State} {i : Instr} {rd : Reg} {a v : Word} {d : Target}

theorem exec_of_loadsAt (h : LoadsAt s i rd a) : exec i s = s.load rd a := by
  cases h <;> rfl

theorem exec_of_storesAt (h : StoresAt s i v a) : exec i s = s.store a v := by
  cases h <;> rfl

/-- The state after a load that completes. -/
def loaded (s : State) (rd : Reg) (d : Target) (a : Word) : State :=
  (((s.loadFrom d a).2.setReg rd (s.loadFrom d a).1).setBus .idle).advance

/-- The state after a store that completes. -/
def stored (s : State) (d : Target) (a v : Word) : State := ((s.storeTo d a v).setBus .idle).advance

theorem loaded_reg_self : (loaded s rd d a).reg rd = (s.loadFrom d a).1 := State.setReg_reg_self ..

/-- A load at a ready target completes; its frame beyond the device is the same for all of them. -/
theorem loadDone_of_ready (h : LoadsAt s i rd a) (ht : targetOf s.cfg a = some d) (hr : s.ready d = true) :
    LoadDone s i rd (loaded s rd d a) := by
  refine ⟨(exec_of_loadsAt h).trans (State.load_of_ready ht hr), fun r hr => ?_, ?_, fun k => ?_⟩
  · rw [loaded, State.advance_reg, State.setBus_reg, State.setReg_reg_of_ne _ _ hr]
    exact State.reg_congr (State.loadFrom_regs ..) r
  · simp [loaded, State.nextPc]
  · simp [State.ramLane, loaded]

theorem storeDone_of_ready (h : StoresAt s i v a) (hg : NotGuarded s a) (ht : targetOf s.cfg a = some d)
    (hr : s.ready d = true) : StoreDone s i (stored s d a v) := by
  refine ⟨(exec_of_storesAt h).trans (State.store_of_ready ht hg hr), ?_, ?_⟩
  · simp [stored]
  · simp [stored, State.nextPc]

end

/-! ### Readiness and pins -/

section
variable {s : State}

theorem uartTxEnabled_eq_false_iff :
    s.uartTxEnabled = false ↔ s.csr3.getLsbD 5 = false ∨ s.csr3.getLsbD 1 = false := by
  rw [State.uartTxEnabled, Bool.and_eq_false_iff]

theorem uartTxEnabled_of (h5 : s.csr3.getLsbD 5 = true) (h1 : s.csr3.getLsbD 1 = true) : s.uartTxEnabled = true := by
  rw [State.uartTxEnabled, h5, h1, Bool.and_self]

theorem ready_uart_iff : s.ready .uart = true ↔ UartReady s := by
  simp only [State.ready, UartReady, Bool.or_eq_true, Bool.not_eq_true', uartTxEnabled_eq_false_iff]

theorem spiReady_eq_false_iff : s.spiReady = false ↔ s.spi.fsm ≠ .idle ∨ s.spi.startCommand = true := by
  rw [State.spiReady, Bool.and_eq_false_iff, beq_eq_false_iff_ne, Bool.not_eq_false']

/-- The level on a pin (R250, R253). -/
theorem getLsbD_gpioPins {j : Nat} (hj : j < 16) : s.gpioPins.getLsbD j =
    if s.gpio.tris.getLsbD j || s.gpio.overdrive.getLsbD j then s.gpio.ext.getLsbD j else s.gpio.port.getLsbD j := by
  simp only [State.gpioPins, BitVec.getLsbD_or, BitVec.getLsbD_and, BitVec.getLsbD_not, hj, decide_true, Bool.true_and]
  grind

end

end Sys2Proof.Machine

namespace Sys2Proof

open Sys2Proof.Machine Sys2Proof.Claims

/-! ### Data memory -/

/-- Settles O15. -/
theorem loadFromDataMemory : Obligations.LoadFromDataMemory := by
  unfold Obligations.LoadFromDataMemory
  exact fun s i rd a h ha => ⟨_, loadDone_of_ready h (targetOf_of_inDataMemory ha) rfl, loaded_reg_self, rfl⟩

/-- A store to data memory leaves every lane outside its cell alone. -/
theorem ramLane_setRamCell_other (s : State) {a v : Word} {k : Nat} (hk : k / 4 ≠ a.toNat) :
    (s.setRamCell a v).ramLane k = s.ramLane k := by
  have read : (s.ram.writeWord a.toNat v).read k = s.ram.read k := by
    rw [Memory.read_writeWord, if_neg (by omega), if_neg (by omega), if_neg (by omega), if_neg (by omega)]
  rw [State.ramLane, State.setRamCell_ram, read]
  rfl

/-- Settles O16. -/
theorem storeToDataMemory : Obligations.StoreToDataMemory := by
  unfold Obligations.StoreToDataMemory
  exact fun s i v a h ha hg => ⟨_, storeDone_of_ready h hg (targetOf_of_inDataMemory ha) rfl,
    State.ramCell_setRamCell_same s a v, fun _ hb => State.ramCell_setRamCell_other s v hb,
    fun _ hk => ramLane_setRamCell_other s hk, rfl⟩

/-- Settles O17. -/
theorem accessFaults : Obligations.AccessFaults := by
  unfold Obligations.AccessFaults
  constructor
  · rintro s i rd v a (h | h) hd hr
    · exact (exec_of_loadsAt h).trans (State.load_of_unmapped (targetOf_of_unmapped hd hr))
    · exact (exec_of_storesAt h).trans (State.store_of_unmapped (targetOf_of_unmapped hd hr))
  · intro s i v a h hm hg hcode
    obtain ⟨d, ht⟩ : ∃ d, targetOf s.cfg a = some d := by
      rcases hm with hd | hm
      · exact targetOf_of_isDevice hd
      · exact ⟨_, targetOf_of_inDataMemory hm⟩
    exact (exec_of_storesAt h).trans (State.store_of_guarded ht ⟨hg, hcode⟩)

/-- Settles O18. -/
theorem busyDeviceMakesAccessWait : Obligations.BusyDeviceMakesAccessWait := by
  unfold Obligations.BusyDeviceMakesAccessWait
  intro s i rd v a h busy
  obtain ⟨d, ht, hr⟩ : ∃ d, targetOf s.cfg a = some d ∧ s.ready d = false := by
    rcases busy with ⟨rfl, hx, h5, h1⟩ | ⟨rfl, hspi⟩
    · refine ⟨.uart, rfl, ?_⟩
      rw [State.ready, hx, uartTxEnabled_of h5 h1]
      rfl
    · exact ⟨.spi, rfl, spiReady_eq_false_iff.2 hspi⟩
  rcases h with h | ⟨h, hg⟩
  · exact (exec_of_loadsAt h).trans (State.load_of_busy ht hr)
  · exact (exec_of_storesAt h).trans (State.store_of_busy ht hg hr)

/-! ### PWM, timer, GPIO -/

/-- Settles O19. -/
theorem loadWithoutReadPathCompletes : Obligations.LoadWithoutReadPathCompletes := by
  unfold Obligations.LoadWithoutReadPathCompletes
  rintro s i rd a h (rfl | rfl | rfl)
  · exact ⟨_, loadDone_of_ready (d := .pwm) h rfl rfl, rfl⟩
  · exact ⟨_, loadDone_of_ready (d := .gpioTris) h rfl rfl, rfl⟩
  · exact ⟨_, loadDone_of_ready (d := .timer) h rfl rfl, rfl⟩

theorem toNat_extractLsb' (v : Word) (a n : Nat) : (v.extractLsb' a n).toNat = v.toNat / 2 ^ a % 2 ^ n := by
  rw [BitVec.extractLsb'_toNat, Nat.shiftRight_eq_div_pow]

/-- Settles O20. -/
theorem storeToPwm : Obligations.StoreToPwm := by
  unfold Obligations.StoreToPwm
  intro s i v h hg
  refine ⟨_, storeDone_of_ready (d := .pwm) h hg rfl rfl, rfl, toNat_extractLsb' .., toNat_extractLsb' .., rfl,
    fun te => ?_, fun te => ?_, fun pe => ⟨?_, ?_⟩, fun pe => ?_, rfl⟩
  all_goals
    simp only [stored, State.storeTo, State.advance_pwm, State.setBus_pwm, State.storePwm_pwm, State.advance_freeCount,
      State.setBus_freeCount, State.storePwm_freeCount]
  · rw [if_pos te]
  · rw [te]; rfl
  · rw [if_pos pe]
  · rw [if_pos pe]
  · rw [pe]; rfl

/-- Settles O24. -/
theorem storeToTimer : Obligations.StoreToTimer := by
  unfold Obligations.StoreToTimer
  intro s i v h hg
  refine ⟨_, storeDone_of_ready (d := .timer) h hg rfl rfl, ?_, rfl, rfl, rfl⟩
  exact (toNat_extractLsb' v 0 16).trans (by rw [Nat.pow_zero, Nat.div_one])

theorem getLsbD_low16 (v : Word) {j : Nat} (hj : j < 16) : (v.extractLsb' 0 16).getLsbD j = v.getLsbD j := by
  rw [BitVec.getLsbD_extractLsb', decide_eq_true hj, Bool.true_and, Nat.zero_add]

/-- Settles O21. -/
theorem gpioTrisAccess : Obligations.GpioTrisAccess := by
  unfold Obligations.GpioTrisAccess
  constructor
  · intro s i v h hg
    refine ⟨_, storeDone_of_ready (d := .gpioTris) h hg rfl rfl, fun j hj => getLsbD_low16 v hj, fun j hj => ?_, rfl⟩
    rw [getLsbD_gpioPins hj, ← getLsbD_low16 v hj]
    rfl
  · exact fun s i rd h => ⟨_, loadDone_of_ready (d := .gpioTris) h rfl rfl, rfl, rfl⟩

/-- Settles O22. -/
theorem storeToGpioPort : Obligations.StoreToGpioPort := by
  unfold Obligations.StoreToGpioPort
  intro s i v h hg
  have port : ∀ j < 16, s.gpio.tris.getLsbD j = false →
      (stored s .gpioPort 0x00010011#32 v).gpio.port.getLsbD j = v.getLsbD j := by
    intro j hj ht
    change ((v.extractLsb' 0 16 &&& ~~~s.gpio.tris) ||| (s.free.extractLsb' 0 16 &&& s.gpio.tris)).getLsbD j = _
    rw [BitVec.getLsbD_or, BitVec.getLsbD_and, BitVec.getLsbD_and, BitVec.getLsbD_not, ht, getLsbD_low16 v hj]
    simp [hj]
  refine ⟨_, storeDone_of_ready (d := .gpioPort) h hg rfl rfl, fun j hj ht => ⟨port j hj ht, fun ho => ?_⟩,
    fun j hj ht => ?_, rfl⟩
  · rw [getLsbD_gpioPins hj, ← port j hj ht]
    change (if s.gpio.tris.getLsbD j || s.gpio.overdrive.getLsbD j then _ else _) = _
    rw [ht, ho]
    rfl
  · rw [getLsbD_gpioPins hj, getLsbD_gpioPins hj]
    change (if s.gpio.tris.getLsbD j || _ then _ else _) = (if s.gpio.tris.getLsbD j || _ then _ else _)
    rw [ht, Bool.true_or, Bool.true_or]
    rfl

/-- Settles O23. -/
theorem loadFromGpioPort : Obligations.LoadFromGpioPort := by
  unfold Obligations.LoadFromGpioPort
  intro s i rd h
  have low : ∀ j < 16, ((loaded s rd .gpioPort 0x00010011#32).reg rd).getLsbD j = s.gpioPins.getLsbD j := by
    intro j hj
    rw [loaded_reg_self]
    change (s.free.extractLsb' 16 16 ++ s.gpioPins).getLsbD j = _
    rw [BitVec.getLsbD_append, if_pos hj]
  refine ⟨_, loadDone_of_ready (d := .gpioPort) h rfl rfl, fun j hj => ?_, fun j hj => ?_, rfl⟩
  · rw [low j hj, getLsbD_gpioPins hj]
  · rw [low j hj]
    rfl

/-! ### UART and SPI -/

/-- Settles O27: the three cases of the transmitter. -/
theorem storeToReadyUart : Obligations.StoreToReadyUart := by
  unfold Obligations.StoreToReadyUart
  intro s i v h hg ready
  refine ⟨_, storeDone_of_ready (d := .uart) h hg rfl (ready_uart_iff.2 ready), fun h5 h1 => ?_, fun off hx => ?_,
    fun off hx => ?_, ?_⟩
  · rw [stored, State.storeTo, State.storeUart_of_enabled (uartTxEnabled_of h5 h1)]
    exact ⟨rfl, rfl, rfl, rfl, rfl⟩
  · rw [stored, State.storeTo, State.storeUart_of_disabled (uartTxEnabled_eq_false_iff.2 off) hx]
    exact ⟨rfl, rfl, rfl, rfl⟩
  · rw [stored, State.storeTo, State.storeUart_of_full (uartTxEnabled_eq_false_iff.2 off) hx]
    exact ⟨rfl, rfl⟩
  · cases ht : s.uartTxEnabled
    · cases hx : s.uart.txif
      · rw [stored, State.storeTo, State.storeUart_of_full ht hx]
        exact ⟨rfl, rfl⟩
      · rw [stored, State.storeTo, State.storeUart_of_disabled ht hx]
        exact ⟨rfl, rfl⟩
    · rw [stored, State.storeTo, State.storeUart_of_enabled ht]
      exact ⟨rfl, rfl⟩

/-- Settles O30. -/
theorem loadFromReadyUart : Obligations.LoadFromReadyUart := by
  unfold Obligations.LoadFromReadyUart
  intro s i rd h ready
  refine ⟨_, loadDone_of_ready (d := .uart) h rfl (ready_uart_iff.2 ready), fun hx => ?_, rfl, rfl⟩
  have value : (s.loadFrom .uart 0x00010003#32).1 = s.free.extractLsb' 8 24 ++ s.uart.rcreg := if_pos hx
  have byte := s.uart.rcreg.isLt
  rw [loaded_reg_self, value, BitVec.toNat_append, ← Nat.shiftLeft_add_eq_or_of_lt byte, Nat.shiftLeft_eq]
  omega

/-- Settles O33: the older word, the newer one, or none. -/
theorem loadFromReadySpi : Obligations.LoadFromReadySpi := by
  unfold Obligations.LoadFromReadySpi
  intro s i rd h ready
  refine ⟨_, loadDone_of_ready (d := .spi) h rfl ready, fun h2 => ?_, fun h2 h1 => ?_, fun h2 h1 => ?_,
    fun j hj => State.getLsbD_loadFrom_csr2 hj, ?_⟩
  · rw [loaded_reg_self, loaded, State.loadFrom, State.loadSpi_of_buf2 h2]
    simp only [State.advance_csr2, State.setBus_csr2, State.setReg_csr2, getLsbD_setBit]
    exact ⟨trivial, rfl, rfl⟩
  · rw [loaded_reg_self, loaded, State.loadFrom, State.loadSpi_of_buf1 h2 h1]
    simp only [State.advance_csr2, State.setBus_csr2, State.setReg_csr2, getLsbD_setBit]
    exact ⟨trivial, h2, rfl⟩
  · rw [loaded, State.loadFrom, State.loadSpi_of_empty h2 h1]
    simp only [State.advance_csr2, State.setBus_csr2, State.setReg_csr2, getLsbD_setBit]
    exact ⟨h2, h1⟩
  · cases h2 : s.spiBuf2
    · cases h1 : s.spiBuf1
      · rw [loaded, State.loadFrom, State.loadSpi_of_empty h2 h1]
        rfl
      · rw [loaded, State.loadFrom, State.loadSpi_of_buf1 h2 h1]
        rfl
    · rw [loaded, State.loadFrom, State.loadSpi_of_buf2 h2]
      rfl

end Sys2Proof
end

section
/-!
PROOFS. The enabled watchdog (spec/60_exceptions.md section 8, R180 to R184): one cycle, the cycles it has counted since
its last refresh, the refresh, and the bound on a processor that hangs.
-/

namespace Sys2Proof.Machine

open Sys2Proof.Claims

/-! ### One cycle (R180 to R182) -/

/-- The number of system clock cycles in one `watch_clk` cycle (R180). -/
def State.prescale (s : State) : Nat := 2 ^ (s.csr4.toNat % 8)

/-- What a cycle does to divider, timer and `pc_rst` when it brings no refresh; `n` is the prescale. -/
def Watchdog.tick (n : Nat) (w : Watchdog) : Watchdog :=
  { w with
    divider := if n ≤ w.divider + 1 then 0 else w.divider + 1
    count := if n ≤ w.divider + 1 then w.count + 1 else w.count
    pcRst := w.pcRst || decide (4096 ≤ if n ≤ w.divider + 1 then w.count + 1 else w.count) }

section
variable {s : State}

theorem prescale_pos (s : State) : 0 < s.prescale := Nat.two_pow_pos _

theorem prescale_congr {t : State} (h : t.csr4 = s.csr4) : t.prescale = s.prescale := by
  rw [State.prescale, State.prescale, h]

/-- A cycle in which the activity monitor sees no change of the pc (R182). -/
theorem watchdogCycle_of_quiet (hw : s.watchdogEnabled = true) {b : Bool} (hq : b = false ∨ s.wdt.lastPc = s.pc) :
    (s.watchdogCycle b).wdt = { s.wdt.tick s.prescale with activity := 0 } := by
  have quiet : (b && s.pc != s.wdt.lastPc) = false := by
    rcases hq with rfl | hq
    · rfl
    · rw [hq, bne_self_eq_false, Bool.and_false]
  by_cases ht : 2 ^ (s.csr4.toNat % 8) ≤ s.wdt.divider + 1 <;>
    simp [State.watchdogCycle, ht, hw, quiet, State.prescale, Watchdog.tick, watchdogActivity, watchdogLimit]

/-- A cycle in which the pc changed, short of a refresh. -/
theorem watchdogCycle_of_active (hw : s.watchdogEnabled = true) (hp : s.pc ≠ s.wdt.lastPc)
    (ha : s.wdt.activity + 1 < 15) :
    (s.watchdogCycle true).wdt = { s.wdt.tick s.prescale with activity := s.wdt.activity + 1 } := by
  have below : ¬ 15 ≤ s.wdt.activity + 1 := by omega
  by_cases ht : 2 ^ (s.csr4.toNat % 8) ≤ s.wdt.divider + 1 <;>
    simp [State.watchdogCycle, ht, hw, hp, below, State.prescale, Watchdog.tick, watchdogActivity, watchdogLimit]

/-- The refresh (R182). -/
theorem watchdogCycle_of_refresh (hw : s.watchdogEnabled = true) (hp : s.pc ≠ s.wdt.lastPc)
    (ha : 15 ≤ s.wdt.activity + 1) :
    (s.watchdogCycle true).wdt.count = 0 ∧ (s.watchdogCycle true).wdt.activity = 0 := by
  simp [State.watchdogCycle, hw, hp, ha, watchdogActivity]

end

/-! ### Cycles since the last refresh -/

/-- The cycles divider and timer stand for together. -/
def Watchdog.elapsed (n : Nat) (w : Watchdog) : Nat := w.count * n + min w.divider (n - 1)

section
variable {n : Nat} {w : Watchdog}

theorem elapsed_tick (hn : 0 < n) : (w.tick n).elapsed n = w.elapsed n + 1 := by
  unfold Watchdog.elapsed Watchdog.tick
  by_cases h : n ≤ w.divider + 1
  · simp only [h, if_true, Nat.succ_mul]
    omega
  · simp only [h, if_false]
    omega

theorem limit_le_count_iff (hn : 0 < n) : 4096 ≤ w.count ↔ 4096 * n ≤ w.elapsed n := by
  unfold Watchdog.elapsed
  constructor
  · intro h
    have := Nat.mul_le_mul_right n h
    omega
  · intro h
    by_contra hc
    have := Nat.mul_le_mul_right n (show w.count ≤ 4095 by omega)
    omega

theorem pcRst_tick (hn : 0 < n) : (w.tick n).pcRst = true ↔ w.pcRst = true ∨ 4096 * n ≤ w.elapsed n + 1 := by
  rw [← elapsed_tick hn, ← limit_le_count_iff hn]
  simp [Watchdog.tick]

end

/-! ### Many cycles -/

theorem repeated_envFrame (s : State) (n : Nat) (e : EnvEvent) : EnvFrame s (repeated s n e) :=
  State.applyEvents_envFrame ..

theorem watchdogCycle_lastPc (s : State) (b : Bool) : (s.watchdogCycle b).wdt.lastPc = s.wdt.lastPc := by
  unfold State.watchdogCycle
  dsimp only
  split <;> rfl

theorem repeated_watchdogCycle_lastPc (s : State) (n : Nat) (b : Bool) :
    (repeated s n (.watchdogCycle b)).wdt.lastPc = s.wdt.lastPc := by
  induction n with
  | zero => rfl
  | succ n ih =>
    rw [repeated_succ, State.applyEvent, watchdogCycle_lastPc, ih]

section
variable {s : State}

theorem repeated_quiet_succ (hw : s.watchdogEnabled = true) (n : Nat) :
    (repeated s (n + 1) (.watchdogCycle false)).wdt =
      { (repeated s n (.watchdogCycle false)).wdt.tick s.prescale with activity := 0 } := by
  have frame := repeated_envFrame s n (.watchdogCycle false)
  rw [repeated_succ, State.applyEvent, watchdogCycle_of_quiet (frame.watchdogEnabled.trans hw) (.inl rfl),
    prescale_congr frame.csr4]

/-- From a refreshed watchdog the cycles counted are those there were, and `pc_rst` comes with the limit (R181). -/
theorem repeated_quiet_elapsed (hw : s.watchdogEnabled = true) (hd : s.wdt.divider = 0) (hc : s.wdt.count = 0)
    (hp : s.wdt.pcRst = false) (n : Nat) :
    (repeated s n (.watchdogCycle false)).wdt.elapsed s.prescale = n ∧
    ((repeated s n (.watchdogCycle false)).wdt.pcRst = true ↔ 4096 * s.prescale ≤ n) := by
  have pos := prescale_pos s
  induction n with
  | zero =>
    simp [Watchdog.elapsed, hd, hc, hp]
    omega
  | succ n ih =>
    obtain ⟨elapsed, pcRst⟩ := ih
    rw [repeated_quiet_succ hw]
    refine ⟨(elapsed_tick pos).trans (by rw [elapsed]), (pcRst_tick pos).trans ?_⟩
    rw [elapsed, pcRst]
    omega

/-- Fewer than 15 cycles of activity count as cycles without a change do. -/
theorem repeated_active (hw : s.watchdogEnabled = true) (hp : s.pc ≠ s.wdt.lastPc) (ha : s.wdt.activity = 0) {n : Nat}
    (hn : n < 15) : (repeated s n (.watchdogCycle true)).wdt =
      { (repeated s n (.watchdogCycle false)).wdt with activity := n } := by
  induction n with
  | zero =>
    change s.wdt = { s.wdt with activity := 0 }
    rw [← ha]
  | succ n ih =>
    have prev := ih (by omega)
    have frame := repeated_envFrame s n (.watchdogCycle true)
    have changed : (repeated s n (.watchdogCycle true)).pc ≠ (repeated s n (.watchdogCycle true)).wdt.lastPc := by
      rwa [frame.pc, repeated_watchdogCycle_lastPc]
    have below : (repeated s n (.watchdogCycle true)).wdt.activity + 1 < 15 := by rw [prev]; exact hn
    rw [repeated_quiet_succ hw, repeated_succ, State.applyEvent,
      watchdogCycle_of_active (frame.watchdogEnabled.trans hw) changed below, prescale_congr frame.csr4, prev]
    rfl

end

end Sys2Proof.Machine

namespace Sys2Proof

open Sys2Proof.Machine Sys2Proof.Claims

/-- Settles O51. -/
theorem watchdogTimeout : Obligations.WatchdogTimeout := by
  unfold Obligations.WatchdogTimeout
  refine ⟨fun s n hw hd hc hp => (repeated_quiet_elapsed hw hd hc hp n).2, fun s n hw hp ha => ⟨fun hn => ?_, ?_⟩,
    fun s => ?_⟩
  · have active := repeated_active hw hp ha hn
    exact ⟨by rw [active], active⟩
  · have frame := repeated_envFrame s 14 (.watchdogCycle true)
    rw [repeated_succ]
    refine watchdogCycle_of_refresh (frame.watchdogEnabled.trans hw) ?_ ?_
    · rwa [frame.pc, repeated_watchdogCycle_lastPc]
    · rw [repeated_active hw hp ha (by decide)]
  · unfold State.watchdogCycle
    dsimp only
    split <;> rfl

end Sys2Proof

namespace Sys2Proof.Machine

open Sys2Proof.Claims

/-! ### A processor that hangs (R182, R184) -/

/-- The watchdog is enabled with the prescale `n`, has taken note of the pc, has counted at least `k` cycles, and asserts
`pc_rst` if they reach the limit. -/
structure Watched (n k : Nat) (s : State) : Prop where
  enabled : s.watchdogEnabled = true
  prescale : s.prescale = n
  noted : s.wdt.lastPc = s.pc
  elapsed : k ≤ s.wdt.elapsed n
  limit : 4096 * n ≤ s.wdt.elapsed n → s.wdt.pcRst = true

section
variable {s t : State} {n k : Nat}

/-- A cycle of a stalled processor counts. -/
theorem watchdogCycle_watched (hw : s.watchdogEnabled = true) (hp : s.wdt.lastPc = s.pc) (b : Bool) :
    Watched s.prescale (s.wdt.elapsed s.prescale + 1) (s.watchdogCycle b) := by
  have frame := s.applyEvent_envFrame (.watchdogCycle b)
  have wdt := watchdogCycle_of_quiet hw (b := b) (.inr hp)
  have elapsed : (s.watchdogCycle b).wdt.elapsed s.prescale = s.wdt.elapsed s.prescale + 1 := by
    rw [wdt]
    exact elapsed_tick (prescale_pos s)
  refine ⟨frame.watchdogEnabled.trans hw, prescale_congr frame.csr4, ?_, elapsed.ge, fun h => ?_⟩
  · rw [watchdogCycle_lastPc, hp]
    exact frame.pc.symm
  · rw [elapsed] at h
    rw [wdt]
    exact (pcRst_tick (prescale_pos s)).2 (.inr h)

theorem applyEvent_watched (h : Watched n k s) (e : EnvEvent) : Watched n k (s.applyEvent e) := by
  obtain ⟨enabled, rfl, noted, elapsed, limit⟩ := h
  have frame := s.applyEvent_envFrame e
  have same : (s.applyEvent e).wdt = s.wdt → Watched s.prescale k (s.applyEvent e) := fun wdt =>
    ⟨frame.watchdogEnabled.trans enabled, prescale_congr frame.csr4, by rw [wdt, noted, frame.pc], by rwa [wdt],
      by rwa [wdt]⟩
  rcases applyEvent_wdt s e with ⟨b, rfl⟩ | rfl | wdt
  · obtain ⟨enabled', prescale', noted', elapsed', limit'⟩ := watchdogCycle_watched enabled noted b
    exact ⟨enabled', prescale', noted', elapsed.trans ((Nat.le_succ _).trans elapsed'), limit'⟩
  · have fire : s.applyEvent .watchdogFire = { s with wdt := { s.wdt with pcRst := true } } := if_pos enabled
    rw [fire]
    exact ⟨enabled, rfl, noted, elapsed, fun _ => rfl⟩
  · exact same wdt

/-- At the boundary after a step that left the pc as it was, at least one more cycle has been counted. -/
theorem atBoundary_watched (hw : s.watchdogEnabled = true) (hp : s.wdt.lastPc = s.pc) :
    Watched s.prescale (s.wdt.elapsed s.prescale + 1) s.atBoundary := by
  have hold : s.dropInput.holdWatchdog = s.dropInput := if_pos hw
  have stall : s.dropInput.stallCycle = s.dropInput.watchdogCycle false := if_pos hp.symm
  have before : Watched s.prescale (s.wdt.elapsed s.prescale + 1) s.dropInput.holdWatchdog.stallCycle := by
    rw [hold, stall]
    exact watchdogCycle_watched (s := s.dropInput) hw hp false
  obtain ⟨enabled, prescale, -, elapsed, limit⟩ := State.applyEvents_induction
    (P := Watched s.prescale (s.wdt.elapsed s.prescale + 1)) (fun _ e => (applyEvent_watched · e)) s.boundary.events
    before
  exact ⟨enabled, prescale, rfl, elapsed, limit⟩

theorem exec_wdt {i : Instr} (h : exec i s = .next t) : t.wdt = s.wdt := by
  cases exec_byClass h with
  | plain _ _ _ _ frame | test _ _ _ _ frame | iret _ frame => rw [frame]
  | load _ _ _ h => rw [State.load_frame h]
  | store _ _ _ h => rw [State.store_frame h]
  | csrSet _ _ c p eq | csrClear _ _ c p eq => subst eq; simp

theorem nextPc_ne (s : State) : s.nextPc ≠ s.pc := by
  intro h
  have zero : s.cfg.pcStep.toWord = 0#32 := by
    have := congrArg (· - s.pc) h
    simpa [State.nextPc, BitVec.add_comm] using this
  cases hs : s.cfg.pcStep <;> rw [hs] at zero <;> exact absurd zero (by decide)

/-- An instruction that leaves the pc as it was is no `csr mov`, so the watchdog's control stays. -/
theorem exec_csr4_of_stalled {i : Instr} (h : exec i s = .next t) (hp : t.pc = s.pc) : t.csr4 = s.csr4 := by
  cases exec_byClass h with
  | plain _ _ _ _ frame | test _ _ _ _ frame | iret _ frame => rw [frame]
  | load _ _ _ h => rw [State.load_frame h]
  | store _ _ _ h => rw [State.store_frame h]
  | csrSet _ _ c p eq | csrClear _ _ c p eq =>
    subst eq
    exact absurd (by simpa [State.nextPc] using hp) (nextPc_ne s)

/-- A step that is no reset and leaves the pc as it was leaves the watchdog as the boundary put it, with no reset due. -/
theorem stalled_step (hw : s.watchdogEnabled = true) (h : step s = .next t) (hp : t.pc = s.pc) (he : t.epoch = s.epoch) :
    t.wdt = s.atBoundary.wdt ∧ t.wdt.lastPc = t.pc ∧ t.watchdogEnabled = true ∧ t.prescale = s.prescale ∧
    t.wdt.pcRst = false := by
  have frame := s.atBoundary_envFrame
  have noted : s.atBoundary.wdt.lastPc = s.atBoundary.pc := rfl
  have effect : s.atBoundary.resetDue = false ∧ t.wdt = s.atBoundary.wdt ∧ t.csr4 = s.atBoundary.csr4 ∧
      t.cfg = s.atBoundary.cfg := by
    rw [← frame.epoch] at he
    rw [← frame.pc] at hp
    rcases step_cases h with ⟨-, -, rfl⟩ | ⟨-, -, rfl⟩ | ⟨-, hr, l, -, rfl⟩ | ⟨-, hr, -, i, -, hi⟩
    · exact absurd he (Nat.succ_ne_self _)
    · exact absurd he (Nat.succ_ne_self _)
    · exact ⟨hr, rfl, rfl, rfl⟩
    · exact ⟨hr, exec_wdt hi, exec_csr4_of_stalled hi hp, (exec_imem_cfg hi).2⟩
  obtain ⟨hr, wdt, csr4, cfg⟩ := effect
  have enabled' : s.atBoundary.watchdogEnabled = true := frame.watchdogEnabled.trans hw
  refine ⟨wdt, ?_, ?_, ?_, ?_⟩
  · rw [wdt, noted, hp, frame.pc]
  · rw [State.watchdogEnabled_congr csr4 cfg, enabled']
  · rw [prescale_congr csr4, prescale_congr frame.csr4]
  · rwa [State.resetDue, enabled', Bool.and_true, ← wdt] at hr

/-- From a state whose pc the watchdog has noted, every stalled step counts a cycle below the limit. -/
theorem elapsed_of_stalledFor (hw : s.watchdogEnabled = true) (hp : s.wdt.lastPc = s.pc) (h : StalledFor n s) :
    n = 0 ∨ s.wdt.elapsed s.prescale + n < 4096 * s.prescale := by
  induction n generalizing s with
  | zero => exact .inl rfl
  | succ n ih =>
    obtain ⟨t, ht, hpc, he, hrest⟩ := h
    obtain ⟨wdt, noted', enabled', prescale', pcRst'⟩ := stalled_step hw ht hpc he
    have watched := atBoundary_watched hw hp
    have counted : s.wdt.elapsed s.prescale + 1 ≤ t.wdt.elapsed s.prescale := by rw [wdt]; exact watched.elapsed
    have below : t.wdt.elapsed s.prescale < 4096 * s.prescale := by
      by_contra hge
      have rst := watched.limit (by rw [← wdt]; omega)
      rw [← wdt, pcRst'] at rst
      cases rst
    have rest := ih enabled' noted' hrest
    rw [prescale'] at rest
    omega

/-! ### A firing at the boundary (R184) -/

theorem resetDue_of_fire {es : List EnvEvent} {b : Bool} {rest : List Boundary} (hw : s.watchdogEnabled = true)
    (hi : s.inputs = ⟨es ++ [.watchdogFire], b⟩ :: rest) : s.atBoundary.resetDue = true := by
  have events : s.boundary.events = es ++ [.watchdogFire] := by rw [State.boundary, hi]; rfl
  have enabled : s.atBoundary.watchdogEnabled = true := s.atBoundary_envFrame.watchdogEnabled.trans hw
  rw [State.resetDue, enabled, Bool.and_true, State.atBoundary, events, State.applyEvents_append]
  have frame := (State.dropInput_envFrame s).trans <| (State.holdWatchdog_envFrame _).trans <|
    (State.stallCycle_envFrame _).trans (State.applyEvents_envFrame es _)
  have fire := State.watchdogFire.eq_1 (s.dropInput.holdWatchdog.stallCycle.applyEvents es)
  rw [if_pos (frame.watchdogEnabled.trans hw)] at fire
  exact congrArg (·.wdt.pcRst) fire

theorem step_of_resetDue (hw : s.watchdogEnabled = true) (hr : s.atBoundary.resetDue = true) :
    step s = .next s.atBoundary.watchdogReset := by
  cases hh : s.halted
  · simp only [step, hh, hr, if_true, Bool.false_eq_true, if_false]
  · exact step_of_halted hh hw

theorem State.applyReset_pcRst (s : State) : s.applyReset.wdt.pcRst = false := by
  change (if s.watchdogEnabled then _ else _ : Watchdog).pcRst = false
  split <;> rfl

end

end Sys2Proof.Machine

namespace Sys2Proof

open Sys2Proof.Machine Sys2Proof.Claims

/-- Settles O50: the firing makes the reset due; a hang counts one cycle a step once the watchdog has noted the pc. -/
theorem watchdogFireResets : Obligations.WatchdogFireResets := by
  unfold Obligations.WatchdogFireResets
  constructor
  · intro s es b rest hw hi
    have frame := s.atBoundary_envFrame
    refine ⟨_, step_of_resetDue hw (resetDue_of_fire hw hi), ?_⟩
    rw [← frame.epoch, ← frame.cfg, ← frame.imem]
    refine ⟨State.watchdogReset_pc, State.watchdogReset_halted, State.applyReset_gieh _, State.applyReset_giel _,
      State.watchdogReset_ram, State.watchdogReset_epoch, State.applyReset_pcRst _, State.watchdogReset_imem,
      State.watchdogReset_cfg, ?_⟩
    rw [State.watchdogReset_inputs, s.atBoundary_inputs, hi, List.tail_cons]
  · intro s n hw h
    cases n with
    | zero => exact Nat.zero_le _
    | succ n =>
      obtain ⟨t, ht, hpc, he, hrest⟩ := h
      obtain ⟨-, noted, enabled, prescale, -⟩ := stalled_step hw ht hpc he
      have bound := elapsed_of_stalledFor enabled noted hrest
      have pos := prescale_pos s
      rw [prescale] at bound
      change n + 1 ≤ 4096 * s.prescale
      omega

end Sys2Proof
end

section
/-!
PROOFS. The timer over many clock edges (spec/61_devices.md section 5) and the PWM over a period (section 2).
-/

namespace Sys2Proof.Machine

open Sys2Proof.Claims

/-! ### The timer on the internal clock without prescaler (R241, R244, R245) -/

/-- TMCON is supplied and selects the internal clock without prescaler. -/
def PlainTimer (s : State) : Prop :=
  (∃ k, s.cfg.tmconCsr = some k) ∧ s.tmcon.getLsbD 5 = false ∧ s.tmcon.getLsbD 3 = false

section
variable {s : State}

theorem PlainTimer.of_frame {t : State} (h : PlainTimer s) (f : EnvFrame s t) : PlainTimer t := by
  unfold PlainTimer at h ⊢
  rwa [f.cfg, f.tmcon]

theorem timerClock_of_off (h : PlainTimer s) (hoff : s.tmcon.getLsbD 6 = false) :
    s.timerClock .internal = { s with timer := { s.timer with chain := s.timer.chain + 1#8 } } := by
  obtain ⟨⟨k, hk⟩, h5, -⟩ := h
  have selects : s.timerSelects .internal = true := by rw [State.timerSelects, hk]; simp only [h5]; rfl
  have off : s.timerOn = false := by rw [State.timerOn, hk, hoff]; rfl
  simp only [State.timerClock, selects, off, Bool.false_and, Bool.false_eq_true, if_true, if_false]

theorem timerClock_of_on (h : PlainTimer s) (hon : s.tmcon.getLsbD 6 = true) : s.timerClock .internal =
    { s.timerCount with timer := { s.timerCount.timer with chain := s.timer.chain + 1#8 } } := by
  obtain ⟨⟨k, hk⟩, h5, h3⟩ := h
  have selects : s.timerSelects .internal = true := by rw [State.timerSelects, hk]; simp only [h5]; rfl
  have on : s.timerOn = true := by rw [State.timerOn, hon, Bool.or_true]
  have ticks : s.timerTicks = true := by rw [State.timerTicks, h3, Bool.and_false]; rfl
  simp only [State.timerClock, selects, on, ticks, Bool.and_self, if_true]

/-! One count (R244): stopped, overflow, or one up. -/

theorem timerCount_of_stopped (h : s.timer.intFlag = true) : s.timerCount = s := if_pos h

theorem timerCount_of_overflow (hi : s.timer.intFlag = false) (hc : s.timer.count = 0xFFFF#16) : s.timerCount =
    { s with timer := { s.timer with count := 0#16, intFlag := true } }.raiseFlag .timer := by
  simp only [State.timerCount, hi, hc, Bool.false_eq_true, if_true, if_false]

theorem timerCount_of_counting (hi : s.timer.intFlag = false) (hc : s.timer.count ≠ 0xFFFF#16) : s.timerCount =
    { s with timer := { s.timer with count := s.timer.count + 1#16 } } := by
  simp only [State.timerCount, hi, hc, Bool.false_eq_true, if_false]

theorem repeated_timer_off (h : PlainTimer s) (hoff : s.tmcon.getLsbD 6 = false) (n : Nat) :
    (repeated s n (.timerClock .internal)).timer.count = s.timer.count ∧
    (repeated s n (.timerClock .internal)).timer.intFlag = s.timer.intFlag := by
  induction n with
  | zero => exact ⟨rfl, rfl⟩
  | succ n ih =>
    have frame := repeated_envFrame s n (.timerClock .internal)
    rw [repeated_succ, State.applyEvent, timerClock_of_off (h.of_frame frame) (by rwa [frame.tmcon])]
    exact ih

/-- The timer has overflowed and stands still. -/
def TimerOverflowed (s : State) : Prop :=
  s.timer.count = 0#16 ∧ s.timer.intFlag = true ∧ s.csr5.getLsbD 14 = true

theorem timerClock_overflowed (h : PlainTimer s) (hon : s.tmcon.getLsbD 6 = true) (ho : TimerOverflowed s) :
    TimerOverflowed (s.timerClock .internal) := by
  rw [timerClock_of_on h hon, timerCount_of_stopped ho.2.1]
  exact ho

/-- From a count `c` the timer counts up until the overflow, and has overflowed from then on. -/
theorem repeated_timer_on (h : PlainTimer s) (hon : s.tmcon.getLsbD 6 = true) (hi : s.timer.intFlag = false) (n : Nat) :
    (s.timer.count.toNat + n < 0x10000 →
      (repeated s n (.timerClock .internal)).timer.count.toNat = s.timer.count.toNat + n ∧
      (repeated s n (.timerClock .internal)).timer.intFlag = false) ∧
    (0x10000 ≤ s.timer.count.toNat + n → TimerOverflowed (repeated s n (.timerClock .internal))) := by
  induction n with
  | zero => exact ⟨fun _ => ⟨rfl, hi⟩, fun h => absurd h (by have := s.timer.count.isLt; omega)⟩
  | succ n ih =>
    obtain ⟨counting, overflowed⟩ := ih
    have frame := repeated_envFrame s n (.timerClock .internal)
    rw [repeated_succ]
    generalize repeated s n (.timerClock .internal) = u at *
    have plain := h.of_frame frame
    have on : u.tmcon.getLsbD 6 = true := by rwa [frame.tmcon]
    change (_ → (u.timerClock .internal).timer.count.toNat = _ ∧ (u.timerClock .internal).timer.intFlag = false) ∧
      (_ → TimerOverflowed (u.timerClock .internal))
    by_cases below : s.timer.count.toNat + n < 0x10000
    · obtain ⟨count, flag⟩ := counting below
      by_cases last : u.timer.count = 0xFFFF#16
      · have full : u.timer.count.toNat = 0xFFFF := by rw [last]; rfl
        rw [timerClock_of_on plain on, timerCount_of_overflow flag last]
        exact ⟨fun _ => by omega, fun _ => ⟨rfl, rfl, getLsbD_setBit ..⟩⟩
      · have room : u.timer.count.toNat ≠ 0xFFFF := fun h => last (BitVec.eq_of_toNat_eq h)
        rw [timerClock_of_on plain on, timerCount_of_counting flag last]
        refine ⟨fun _ => ⟨?_, flag⟩, fun _ => by omega⟩
        change (u.timer.count + 1#16).toNat = _
        rw [BitVec.toNat_add, BitVec.toNat_ofNat]
        omega
    · exact ⟨fun _ => by omega, fun _ => timerClock_overflowed plain on (overflowed (by omega))⟩

/-! ### One tick of the PWM (R211, R212, R213) -/

@[simp] theorem pwmTick_reg (s : State) : s.pwmTick.pwm.reg = s.pwm.reg := rfl
@[simp] theorem pwmTick_pr (s : State) : s.pwmTick.pwm.pr = s.pwm.pr := rfl
@[simp] theorem pwmTick_dutyMaster (s : State) : s.pwmTick.pwm.dutyMaster = s.pwm.dutyMaster := rfl

theorem pwmTick_of_te_off (h : s.pwm.reg.getLsbD 1 = false) : s.pwmTick.pwm.tmr = 0#12 := by
  simp only [State.pwmTick, h, Bool.false_and, Bool.false_eq_true, if_false]

/-- The tick that ends a period (R212). -/
theorem pwmTick_of_roll (te : s.pwm.reg.getLsbD 1 = true) (pe : s.pwm.reg.getLsbD 0 = true) (h : s.pwm.tmr = s.pwm.pr) :
    s.pwmTick.pwm.tmr = 0#12 ∧ s.pwmTick.pwm.dutySlave = s.pwm.dutyMaster ∧
    (¬(s.pwm.dutyMaster = 0#12 ∧ s.pwm.pr = 0#12) → s.pwmTick.pwm.out = decide (s.pwm.dutyMaster ≠ 0#12)) := by
  simp only [State.pwmTick, te, pe, h, beq_self_eq_true, if_true, Bool.not_true, Bool.and_false, Bool.false_eq_true,
    if_false, Bool.false_or, true_and]
  grind

/-- A tick inside a period (R213). -/
theorem pwmTick_of_run (te : s.pwm.reg.getLsbD 1 = true) (pe : s.pwm.reg.getLsbD 0 = true) (h : s.pwm.tmr ≠ s.pwm.pr) :
    s.pwmTick.pwm.tmr = s.pwm.tmr + 1#12 ∧ s.pwmTick.pwm.dutySlave = s.pwm.dutySlave ∧
    (¬(s.pwm.tmr + 1#12 = s.pwm.dutySlave ∧ s.pwm.tmr + 1#12 = s.pwm.pr) →
      s.pwmTick.pwm.out = (s.pwm.out && decide (s.pwm.tmr + 1#12 ≠ s.pwm.dutySlave))) := by
  simp only [State.pwmTick, te, pe, beq_eq_false_iff_ne.2 h, if_true, Bool.not_true, Bool.not_false, Bool.and_true,
    Bool.false_eq_true, if_false, Bool.false_or, true_and]
  grind

/-! ### A period of the PWM -/

theorem repeated_pwm_fixed (s : State) (n : Nat) : (repeated s n .pwmTick).pwm.reg = s.pwm.reg ∧
    (repeated s n .pwmTick).pwm.pr = s.pwm.pr ∧ (repeated s n .pwmTick).pwm.dutyMaster = s.pwm.dutyMaster := by
  induction n with
  | zero => exact ⟨rfl, rfl, rfl⟩
  | succ n ih => rw [repeated_succ]; exact ih

/-- From the end of a period: where the counter stands after `n + 1` ticks, and the level then. -/
theorem repeated_pwm_period (te : s.pwm.reg.getLsbD 1 = true) (pe : s.pwm.reg.getLsbD 0 = true)
    (h : s.pwm.tmr = s.pwm.pr) {n : Nat} (hn : n ≤ s.pwm.pr.toNat) :
    (repeated s (n + 1) .pwmTick).pwm.tmr.toNat = n ∧
    (repeated s (n + 1) .pwmTick).pwm.dutySlave = s.pwm.dutyMaster ∧
    (¬(n = s.pwm.dutyMaster.toNat ∧ n = s.pwm.pr.toNat) →
      (repeated s (n + 1) .pwmTick).pwm.out = decide (n < s.pwm.dutyMaster.toNat)) := by
  induction n with
  | zero =>
    obtain ⟨tmr, duty, out⟩ := pwmTick_of_roll te pe h
    have zero : ∀ x : BitVec 12, x = 0#12 ↔ x.toNat = 0 := fun _ => BitVec.toNat_eq
    simp only [ne_eq, zero] at out
    exact ⟨congrArg BitVec.toNat tmr, duty, fun apart => (out (by omega)).trans (decide_eq_decide.2 (by omega))⟩
  | succ n ih =>
    obtain ⟨reg, pr, master⟩ := repeated_pwm_fixed s (n + 1)
    obtain ⟨tmr, duty, out⟩ := ih (by omega)
    rw [repeated_succ]
    generalize repeated s (n + 1) .pwmTick = u at *
    have size := s.pwm.pr.isLt
    have inside : u.pwm.tmr ≠ u.pwm.pr := by
      intro eq
      have := congrArg BitVec.toNat eq
      rw [tmr, pr] at this
      omega
    obtain ⟨tmr', duty', out'⟩ := pwmTick_of_run (by rwa [reg]) (by rwa [reg]) inside
    have next : (u.pwm.tmr + 1#12).toNat = n + 1 := by
      rw [BitVec.toNat_add, tmr, BitVec.toNat_ofNat]
      omega
    change u.pwmTick.pwm.tmr.toNat = _ ∧ u.pwmTick.pwm.dutySlave = _ ∧ (_ → u.pwmTick.pwm.out = _)
    rw [tmr', duty', next, duty]
    rw [duty, pr] at out'
    simp only [ne_eq, BitVec.toNat_eq, next] at out'
    refine ⟨rfl, rfl, fun apart => ?_⟩
    rw [out' apart, out (by omega)]
    grind

end

end Sys2Proof.Machine

namespace Sys2Proof

open Sys2Proof.Machine Sys2Proof.Claims

/-- Settles O26. -/
theorem pwmPeriodIsPrPlusOne : Obligations.PwmPeriodIsPrPlusOne := by
  unfold Obligations.PwmPeriodIsPrPlusOne
  refine ⟨fun s n pe te h => ⟨fun hn => repeated_pwm_period te pe h hn, ?_⟩, fun s n te hn => ?_⟩
  · obtain ⟨reg, pr, -⟩ := repeated_pwm_fixed s (s.pwm.pr.toNat + 1)
    have full := (repeated_pwm_period te pe h (le_refl s.pwm.pr.toNat)).1
    rw [repeated_succ]
    refine (pwmTick_of_roll (by rwa [reg]) (by rwa [reg]) ?_).1
    rw [pr]
    exact BitVec.eq_of_toNat_eq full
  · obtain ⟨n, rfl⟩ := Nat.exists_eq_succ_of_ne_zero hn.ne'
    rw [repeated_succ]
    exact pwmTick_of_te_off (by rwa [(repeated_pwm_fixed s n).1])

/-- Settles O25. -/
theorem timerOverflows : Obligations.TimerOverflows := by
  unfold Obligations.TimerOverflows
  intro s k n hk h5 h3 hi
  have plain : PlainTimer s := ⟨⟨k, hk⟩, h5, h3⟩
  have size := s.timer.count.isLt
  refine ⟨fun off => ?_, fun on hn => ?_, fun on hn => ?_⟩
  · have still := repeated_timer_off plain off n
    rwa [hi] at still
  · exact (repeated_timer_on plain on hi n).1 (by omega)
  · exact (repeated_timer_on plain on hi n).2 (by omega)

end Sys2Proof
end

section
/-!
PROOFS. The UART bit time by bit time (spec/61_devices.md section 3): the transmitter's frame at each of its eleven bit
times, and the receiver over one frame.
-/

namespace Sys2Proof.Machine

open Sys2Proof.Claims

/-! ### The transmitter alone (R222, R223) -/

/-- Byte `b` of the word as the shift register takes it: start bit, eight data bits, stop bit. -/
def uartFrame (v : Word) (b : Nat) : BitVec 10 := 1#1 ++ (v >>> (8 * b)).setWidth 8 ++ 0#1

theorem uartFrame_start (v : Word) (b : Nat) : (uartFrame v b).getLsbD 0 = false := by
  rw [uartFrame, BitVec.getLsbD_append]
  rfl

theorem uartFrame_data (v : Word) (b : Nat) {j : Nat} (hj : j < 8) :
    (uartFrame v b).getLsbD (j + 1) = v.getLsbD (8 * b + j) := by
  simp only [uartFrame, BitVec.getLsbD_append, BitVec.getLsbD_setWidth, BitVec.getLsbD_ushiftRight]
  grind

theorem uartFrame_stop (v : Word) (b : Nat) : (uartFrame v b).getLsbD 9 = true := by
  simp only [uartFrame, BitVec.getLsbD_append]
  rfl

/-- One bit time of an enabled transmitter that sends `n` bytes a word. -/
def Uart.txStep (n : Nat) (u : Uart) : Uart :=
  if u.tsrBits = 0 then
    if u.txPending = true ∧ u.txSent < n then
      if n = 1 then ({ u with tsr := uartFrame u.txreg u.txSent, tsrBits := 10, txSent := u.txSent + 1 } : Uart).idle
      else { u with tsr := uartFrame u.txreg u.txSent, tsrBits := 10, txSent := u.txSent + 1 }
    else u.idle
  else if u.tsrBits = 1 ∧ ¬(u.txPending = true ∧ u.txSent < n) then u.shiftOut.idle
  else u.shiftOut

section
variable {s : State}

theorem uartMore_iff : s.uartMore = true ↔ s.uart.txPending = true ∧ s.uart.txSent < s.uartBytes := by
  rw [State.uartMore, Bool.and_eq_true, decide_eq_true_eq]

theorem uartTxTick_uart (h : s.uartTxEnabled = true) : s.uartTxTick.uart = s.uart.txStep s.uartBytes := by
  have more : s.uartMore = decide (s.uart.txPending = true ∧ s.uart.txSent < s.uartBytes) := by
    rw [Bool.eq_iff_iff, uartMore_iff, decide_eq_true_eq]
  simp only [State.uartTxTick, h, if_true, more, decide_eq_true_eq, decide_eq_false_iff_not]
  rfl

theorem uartBytes_congr {t : State} (h : t.csr3 = s.csr3) : t.uartBytes = s.uartBytes := by
  rw [State.uartBytes, State.uartBytes, h]

theorem uartTxEnabled_congr {t : State} (h : t.csr3 = s.csr3) : t.uartTxEnabled = s.uartTxEnabled := by
  rw [State.uartTxEnabled, State.uartTxEnabled, h]

/-- Over many bit times the transmitter runs alone. -/
theorem repeated_uartTxTick (h : s.uartTxEnabled = true) (k : Nat) :
    (repeated s k .uartTxTick).uart = (Uart.txStep s.uartBytes)^[k] s.uart := by
  induction k with
  | zero => rfl
  | succ k ih =>
    have frame := repeated_envFrame s k .uartTxTick
    rw [repeated_succ, State.applyEvent, uartTxTick_uart ((uartTxEnabled_congr frame.csr3).trans h), ih,
      uartBytes_congr frame.csr3, Function.iterate_succ_apply']

/-- DATA CONTROL is the two high bits of `csr[3]` (R22). -/
theorem uartBytes_eq (s : State) : s.uartBytes = s.csr3.toNat / 64 + 1 := by
  have size := s.csr3.isLt
  rw [State.uartBytes, BitVec.extractLsb'_toNat, Nat.shiftRight_eq_div_pow]
  omega

end

/-! ### The frame of byte `b`, `r` bit times after its move to the shift register -/

/-- The transmitter `r` bit times into byte `b` of the `n` bytes of the word `v`. -/
structure TxAt (v : Word) (n b r : Nat) (u : Uart) : Prop where
  txreg : u.txreg = v
  txSent : u.txSent = b + 1
  tsrBits : u.tsrBits = 10 - r
  tsr : u.tsr = uartFrame v b >>> r
  txLine : 0 < r → u.txLine = (uartFrame v b).getLsbD (r - 1)
  txPending : u.txPending = decide (1 < n ∧ ¬(b + 1 = n ∧ r = 10))
  txif : u.txif = !u.txPending

section
variable {v : Word} {n b r k : Nat} {u : Uart}

/-- An idle transmitter with byte `b` still to send takes it. -/
theorem txAt_move (hn : b < n) (hreg : u.txreg = v) (hsent : u.txSent = b) (hbits : u.tsrBits = 0)
    (hpending : u.txPending = true) (hif : u.txif = false) : TxAt v n b 0 (u.txStep n) := by
  have more : u.txPending = true ∧ u.txSent < n := ⟨hpending, by omega⟩
  unfold Uart.txStep
  rw [if_pos hbits, if_pos more]
  split
  · next one =>
    exact ⟨hreg, congrArg (· + 1) hsent, rfl, by rw [hsent, hreg]; rfl, nofun, by simp [one, Uart.idle], rfl⟩
  · next many =>
    refine ⟨hreg, congrArg (· + 1) hsent, rfl, ?_, nofun, ?_, ?_⟩
    · rw [hsent, hreg]; rfl
    · simp [hpending]; omega
    · simp [hpending, hif]

/-- The shift register moves on by one bit; after the last bit of the last byte the transmitter is idle. -/
theorem txAt_shift (h : TxAt v n b r u) (hb : b < n) (hr : r < 10) : TxAt v n b (r + 1) (u.txStep n) := by
  obtain ⟨hreg, hsent, hbits, htsr, -, hpending, hif⟩ := h
  have busy : u.tsrBits ≠ 0 := by omega
  have shifted : u.shiftOut.tsr = uartFrame v b >>> (r + 1) := by
    rw [BitVec.shiftRight_add, ← htsr]; rfl
  have line : u.shiftOut.txLine = (uartFrame v b).getLsbD r := by
    simp only [Uart.shiftOut, htsr, BitVec.getLsbD_ushiftRight, Nat.add_zero]
  have left : u.shiftOut.tsrBits = 10 - (r + 1) := by
    simp only [Uart.shiftOut, hbits]; omega
  unfold Uart.txStep
  rw [if_neg busy]
  split
  · next last =>
    have final : ¬(1 < n ∧ ¬(b + 1 = n ∧ r + 1 = 10)) := by
      rintro ⟨many, notLast⟩
      have pending : u.txPending = true := by rw [hpending, decide_eq_true_eq]; omega
      exact last.2 ⟨pending, by omega⟩
    exact ⟨hreg, hsent, left, shifted, fun _ => line, (decide_eq_false final).symm, rfl⟩
  · next more =>
    refine ⟨hreg, hsent, left, shifted, fun _ => line, hpending.trans ?_, hif⟩
    rw [decide_eq_decide]
    constructor
    · rintro ⟨many, -⟩
      refine ⟨many, fun ⟨whole, full⟩ => more ⟨by omega, fun ⟨_, fewer⟩ => by omega⟩⟩
    · exact fun ⟨many, _⟩ => ⟨many, by omega⟩

/-- After the stop bit of one byte the next one moves to the shift register. -/
theorem txAt_next (h : TxAt v n b 10 u) (hb : b + 1 < n) : TxAt v n (b + 1) 0 (u.txStep n) := by
  have pending : u.txPending = true := by rw [h.txPending, decide_eq_true_eq]; omega
  exact txAt_move hb h.txreg h.txSent h.tsrBits pending (by rw [h.txif, pending]; rfl)

theorem txAt_shifts (h : TxAt v n b 0 u) (hb : b < n) (hr : r ≤ 10) : TxAt v n b r ((Uart.txStep n)^[r] u) := by
  induction r with
  | zero => exact h
  | succ r ih =>
    rw [Function.iterate_succ_apply']
    exact txAt_shift (ih (by omega)) hb (by omega)

/-- Byte `b` takes the bit times `11 * b + 1` to `11 * b + 11` of a word that an idle transmitter has just taken. -/
theorem txAt_of_start (hreg : u.txreg = v) (hsent : u.txSent = 0) (hbits : u.tsrBits = 0)
    (hpending : u.txPending = true) (hif : u.txif = false) (hb : b < n) (hr : r ≤ 10) :
    TxAt v n b r ((Uart.txStep n)^[11 * b + 1 + r] u) := by
  induction b generalizing r with
  | zero =>
    rw [Nat.add_comm, Function.iterate_add_apply]
    exact txAt_shifts (txAt_move hb hreg hsent hbits hpending hif) hb hr
  | succ b ih =>
    have moved : TxAt v n (b + 1) 0 ((Uart.txStep n)^[11 * (b + 1) + 1] u) := by
      rw [Function.iterate_succ_apply']
      exact txAt_next (ih (by omega) le_rfl) hb
    rw [Nat.add_comm _ r, Function.iterate_add_apply]
    exact txAt_shifts moved hb hr

/-- With nothing left to send TXIF stays set. -/
theorem txStep_free (hpending : u.txPending = false) (hif : u.txif = true) :
    (u.txStep n).txPending = false ∧ (u.txStep n).txif = true := by
  have nothing : ¬(u.txPending = true ∧ u.txSent < n) := by simp [hpending]
  unfold Uart.txStep
  rw [if_neg nothing]
  split
  · exact ⟨rfl, rfl⟩
  · split
    · exact ⟨rfl, rfl⟩
    · exact ⟨hpending, hif⟩

theorem iterate_txStep_free (hpending : u.txPending = false) (hif : u.txif = true) :
    ((Uart.txStep n)^[k] u).txPending = false ∧ ((Uart.txStep n)^[k] u).txif = true := by
  induction k with
  | zero => exact ⟨hpending, hif⟩
  | succ k ih =>
    rw [Function.iterate_succ_apply']
    exact txStep_free ih.1 ih.2

end

section
variable {s : State} {v : Word}

/-- The transmitter after `k` bit times from the store of a word to an enabled UART. -/
theorem uart_after_store (enabled : s.uartTxEnabled = true) (k : Nat) :
    (repeated (s.storeUart v) k .uartTxTick).uart = (Uart.txStep s.uartBytes)^[k] (s.storeUart v).uart := by
  have same : (s.storeUart v).csr3 = s.csr3 := by rw [State.storeUart_of_enabled enabled]
  rw [repeated_uartTxTick ((uartTxEnabled_congr same).trans enabled), uartBytes_congr same]

/-- The transmitter in any bit time of the word `v` stored to an idle, enabled UART (R222, R223). -/
theorem txAt_of_storeUart {b r : Nat} (enabled : s.uartTxEnabled = true) (idle : s.uart.tsrBits = 0)
    (hb : b < s.uartBytes) (hr : r ≤ 10) :
    TxAt v s.uartBytes b r (repeated (s.storeUart v) (11 * b + 1 + r) .uartTxTick).uart := by
  rw [uart_after_store enabled, State.storeUart_of_enabled enabled]
  exact txAt_of_start rfl rfl idle rfl rfl hb hr

/-- A one-byte word leaves TXREG, and TXIF is back, in the first bit time (R223). -/
theorem txif_of_one_byte {k : Nat} (enabled : s.uartTxEnabled = true) (idle : s.uart.tsrBits = 0)
    (one : s.uartBytes = 1) (hk : 0 < k) : (repeated (s.storeUart v) k .uartTxTick).uart.txif = true := by
  obtain ⟨k, rfl⟩ : ∃ m, k = m + 1 := ⟨k - 1, by omega⟩
  have moved := txAt_of_storeUart (v := v) (b := 0) (r := 0) enabled idle (by omega) (by omega)
  have pending := moved.txPending.trans (decide_eq_false (by omega))
  have free := moved.txif.trans (congrArg Bool.not pending)
  rw [uart_after_store enabled] at pending free ⊢
  rw [Function.iterate_add_apply]
  exact (iterate_txStep_free pending free).2

/-- In a longer mode TXIF stays clear before the stop bit of the last byte (R223). -/
theorem txif_of_more_bytes {k : Nat} (enabled : s.uartTxEnabled = true) (idle : s.uart.tsrBits = 0)
    (more : 1 < s.uartBytes) (hk : k < 11 * s.uartBytes) :
    (repeated (s.storeUart v) k .uartTxTick).uart.txif = false := by
  cases k with
  | zero => rw [repeated_zero, State.storeUart_of_enabled enabled]
  | succ k =>
    have at_ := txAt_of_storeUart (v := v) (b := k / 11) (r := k % 11) enabled idle (by omega) (by omega)
    have pending := at_.txPending.trans (decide_eq_true ⟨more, by omega⟩)
    have position : 11 * (k / 11) + 1 + k % 11 = k + 1 := by omega
    rw [position] at at_ pending
    rw [at_.txif, pending]
    rfl

end

/-- Settles O28: byte `b`, `r` bit times after its move, is `TxAt`; every bit time but the first is one of these. -/
theorem uartSendsFrame : Obligations.UartSendsFrame := by
  intro s v n spen txen idle hn
  have enabled : s.uartTxEnabled = true := uartTxEnabled_of spen txen
  rw [← uartBytes_eq] at hn
  subst hn
  have at_ {b r : Nat} := txAt_of_storeUart (v := v) (b := b) (r := r) enabled idle
  have last : TxAt v s.uartBytes (s.uartBytes - 1) 10
      (repeated (s.storeUart v) (11 * s.uartBytes) .uartTxTick).uart := by
    have some : 0 < s.uartBytes := by rw [uartBytes_eq]; omega
    have position : 11 * (s.uartBytes - 1) + 1 + 10 = 11 * s.uartBytes := by omega
    rw [← position]
    exact at_ (by omega) le_rfl
  have sent := last.txPending.trans (decide_eq_false (by omega))
  refine ⟨fun b hb => ⟨?start, fun j hj => ?data, ?stop⟩, by rw [State.storeUart_of_enabled enabled],
    fun one k hk => txif_of_one_byte enabled idle one hk, fun more k hk => txif_of_more_bytes enabled idle more hk,
    by rw [last.txif, sent]; rfl, sent, last.tsrBits⟩
  case start => exact ((at_ hb (r := 1) (by omega)).txLine (by omega)).trans (uartFrame_start v b)
  case data =>
    have position : 11 * b + 3 + j = 11 * b + 1 + (j + 2) := by omega
    rw [position]
    exact ((at_ hb (by omega)).txLine (by omega)).trans (uartFrame_data v b hj)
  case stop => exact ((at_ hb (r := 10) (by omega)).txLine (by omega)).trans (uartFrame_stop v b)

end Sys2Proof.Machine
end

section
/-!
PROOFS. The UART's receiver over one frame (spec/61_devices.md section 3).
-/

namespace Sys2Proof.Machine

open Sys2Proof.Claims

/-! ### One receive bit time with the pull-up off (R226) -/

section
variable {s : State}

theorem uartRxEnabled_of (h5 : s.csr3.getLsbD 5 = true) (h2 : s.csr3.getLsbD 2 = true) : s.uartRxEnabled = true := by
  rw [State.uartRxEnabled, h5, h2, Bool.and_self]

theorem uartRxEnabled_congr {t : State} (h : t.csr3 = s.csr3) : t.uartRxEnabled = s.uartRxEnabled := by
  rw [State.uartRxEnabled, State.uartRxEnabled, h]

/-- A 0 on the idle line is a start bit. -/
theorem uartRxBit_start (h : s.uartRxEnabled = true) (hcount : s.uart.rxCount = 0) (hpull : s.uart.pullupEn = false) :
    s.uartRxBit false = { s with uart := { s.uart with rxCount := 1 } } := by
  simp [State.uartRxBit, h, hcount, hpull]

theorem uartRxBit_data (h : s.uartRxEnabled = true) (hpos : s.uart.rxCount ≠ 0) (hcount : s.uart.rxCount ≤ 8)
    (hpull : s.uart.pullupEn = false) (level : Bool) : s.uartRxBit level =
      { s with uart := { s.uart with
          rxShift := BitVec.ofBool level ++ s.uart.rxShift.extractLsb' 1 7, rxCount := s.uart.rxCount + 1 } } := by
  simp [State.uartRxBit, h, hpos, hcount, hpull]

theorem uartRxBit_stop (h : s.uartRxEnabled = true) (hcount : 8 < s.uart.rxCount) (hread : s.uart.rxif = false) :
    s.uartRxBit true =
      { s with uart := { s.uart with rcreg := s.uart.rxShift, rxif := true, rxCount := 0 } } := by
  have busy : s.uart.rxCount ≠ 0 := by omega
  simp [State.uartRxBit, h, busy, hcount, hread]

theorem uartRxBit_badStop (h : s.uartRxEnabled = true) (hcount : 8 < s.uart.rxCount) (hpull : s.uart.pullupEn = false) :
    s.uartRxBit false = { s with uart := { s.uart with rxCount := 0, pullupEn := true } } := by
  have busy : s.uart.rxCount ≠ 0 := by omega
  simp [State.uartRxBit, h, busy, hcount, hpull]

/-- The pull-up holds the line at 1, so an idle receiver sees no start bit. -/
theorem uartRxBit_pulledUp (hcount : s.uart.rxCount = 0) (hpull : s.uart.pullupEn = true) (driven : Bool) :
    (s.uartRxBit driven).uart.rxCount = 0 := by
  cases enabled : s.uartRxEnabled with
  | false => simp [State.uartRxBit, enabled, hcount]
  | true => simp [State.uartRxBit, enabled, hcount, hpull, State.uartLineIdle]

end

/-! ### The frame -/

/-- The receiver of `t` has taken the start bit and `k` data bits of the byte `b`, from `s` on. -/
structure RxAt (s : State) (b : Byte) (k : Nat) (t : State) : Prop where
  uart : t.uart = { s.uart with rxCount := k + 1, rxShift := t.uart.rxShift }
  csr3 : t.csr3 = s.csr3
  bits : ∀ j < k, t.uart.rxShift.getLsbD (8 - k + j) = b.getLsbD j

section
variable {s t : State} {b : Byte} {k : Nat}

theorem rxAt_start (h : s.uartRxEnabled = true) (hcount : s.uart.rxCount = 0) (hpull : s.uart.pullupEn = false) :
    RxAt s b 0 (s.uartRxBit false) := by
  rw [uartRxBit_start h hcount hpull]
  exact ⟨rfl, rfl, nofun⟩

theorem rxAt_data (h : RxAt s b k t) (enabled : s.uartRxEnabled = true) (hpull : s.uart.pullupEn = false) (hk : k < 8) :
    RxAt s b (k + 1) (t.uartRxBit (b.getLsbD k)) := by
  obtain ⟨huart, hcsr3, hbits⟩ := h
  have count : t.uart.rxCount = k + 1 := by rw [huart]
  have pull : t.uart.pullupEn = false := by rw [huart]; exact hpull
  rw [uartRxBit_data ((uartRxEnabled_congr hcsr3).trans enabled) (by omega) (by omega) pull]
  refine ⟨by rw [huart], hcsr3, fun j hj => ?_⟩
  rw [BitVec.getLsbD_append]
  rcases Nat.lt_succ_iff_lt_or_eq.1 hj with older | rfl
  · have below : 8 - (k + 1) + j < 7 := by omega
    have position : 1 + (8 - (k + 1) + j) = 8 - k + j := by omega
    rw [if_pos below, BitVec.getLsbD_extractLsb', decide_eq_true below, Bool.true_and, position, hbits j older]
  · have top : 8 - (j + 1) + j = 7 := by omega
    rw [top, if_neg (by omega), BitVec.getLsbD_ofBool]
    rfl

/-- The start bit and the first `k` data bits. -/
theorem rxAt_frame (enabled : s.uartRxEnabled = true) (hcount : s.uart.rxCount = 0) (hpull : s.uart.pullupEn = false)
    (hk : k ≤ 8) :
    RxAt s b k (s.applyEvents ((false :: (List.range k).map b.getLsbD).map EnvEvent.uartRxBit)) := by
  induction k with
  | zero => exact rxAt_start enabled hcount hpull
  | succ k ih =>
    rw [List.range_succ, List.map_append, ← List.cons_append, List.map_append, State.applyEvents_append]
    exact rxAt_data (ih (by omega)) enabled hpull hk

/-- After all eight data bits the shift register holds the byte. -/
theorem RxAt.rxShift_eq (h : RxAt s b 8 t) : t.uart.rxShift = b :=
  BitVec.eq_of_getLsbD_eq fun j hj => by simpa using h.bits j hj

end

/-- Settles O29: the bits of a frame one by one (`RxAt`), then the stop bit by its level. -/
theorem uartReceivesByte : Obligations.UartReceivesByte := by
  refine ⟨fun s b stop spen rxen hcount hread hpull => ?_, fun s driven hcount hpull =>
    uartRxBit_pulledUp hcount hpull driven⟩
  have enabled := uartRxEnabled_of spen rxen
  have frame := rxAt_frame (b := b) enabled hcount hpull le_rfl
  rw [List.map_append, State.applyEvents_append]
  generalize s.applyEvents ((false :: (List.range 8).map b.getLsbD).map EnvEvent.uartRxBit) = t at frame
  have enabled' := (uartRxEnabled_congr frame.csr3).trans enabled
  have late : 8 < t.uart.rxCount := by rw [frame.uart]; exact Nat.lt_succ_self 8
  have read : t.uart.rxif = false := by rw [frame.uart]; exact hread
  have pull : t.uart.pullupEn = false := by rw [frame.uart]; exact hpull
  have kept : t.uart.rcreg = s.uart.rcreg := by rw [frame.uart]
  cases stop with
  | true =>
    have done : t.applyEvents ([true].map EnvEvent.uartRxBit) = _ := uartRxBit_stop enabled' late read
    rw [done]
    exact ⟨fun _ => ⟨frame.rxShift_eq, rfl, pull⟩, nofun, rfl⟩
  | false =>
    have done : t.applyEvents ([false].map EnvEvent.uartRxBit) = _ := uartRxBit_badStop enabled' late pull
    rw [done]
    exact ⟨nofun, fun _ => ⟨kept, read, rfl⟩, rfl⟩

end Sys2Proof.Machine
end

section
/-!
PROOFS. The SPI edge by edge (spec/61_devices.md section 4): chip select, the bits of a transfer, the end.
-/

namespace Sys2Proof.Machine

open Sys2Proof.Claims

/-! ### One edge, by the state of the FSM and the phase (R231, R233, R237) -/

section
variable {s : State} {miso : Bool}

/-- The SPI is about to leave IDLE: `start_command` in master mode, `slave_enable` in slave mode (R237, R238). -/
def State.spiStarts (s : State) : Bool := if s.spiMaster then s.spi.startCommand else s.spi.slaveEnable

theorem spiClock_start (works : s.spiWorks = true) (idle : s.spi.fsm = .idle) (phase : s.spi.phase = true)
    (starts : s.spiStarts = true) : s.spiClock miso =
      { s with spi := { s.spi with
          fsm := .assignCs, shiftReg := s.spi.buffer, phase := false, clock := !s.spi.clock } } := by
  rw [State.spiStarts] at starts
  simp only [State.spiClock, works, phase, if_true, State.spiPhaseHigh, idle, starts]
  simp [State.spiToggle]

theorem spiClock_stay (idle : s.spi.fsm = .idle) (stays : s.spi.phase = false ∨ s.spiStarts = false) :
    s.spiClock miso = s.spiToggle := by
  rw [State.spiStarts] at stays
  rw [State.spiClock]
  split
  · rcases stays with phase | stays
    · simp [phase, State.spiPhaseLow, idle]
    · simp [State.spiPhaseHigh, State.spiPhaseLow, idle, stays]
  · rfl

theorem spiClock_low (low : s.spi.phase = false) (quiet : s.spi.fsm ≠ .transmission) :
    s.spiClock miso = s.spiToggle := by
  simp [State.spiClock, low, State.spiPhaseLow, quiet]

theorem spiClock_assignCs (works : s.spiWorks = true) (select : s.spi.fsm = .assignCs) (phase : s.spi.phase = true) :
    s.spiClock miso =
      { s with spi := { s.spi with fsm := .transmission, bitCnt := 0, phase := false, clock := !s.spi.clock } } := by
  simp only [State.spiClock, works, phase, if_true, State.spiPhaseHigh, select]
  simp [State.spiToggle]

theorem spiClock_drive (works : s.spiWorks = true) (sends : s.spi.fsm = .transmission) (low : s.spi.phase = false) :
    s.spiClock miso = { s with spi := { s.spi with
      mosi := s.spi.shiftReg.getLsbD 31, phase := true, clock := !s.spi.clock } } := by
  simp [State.spiClock, works, low, State.spiPhaseLow, sends, State.spiToggle]

theorem spiClock_sample (works : s.spiWorks = true) (sends : s.spi.fsm = .transmission) (phase : s.spi.phase = true) :
    s.spiClock miso = { s with spi := { s.spi with
      shiftReg := s.spi.shiftReg.extractLsb' 0 31 ++ BitVec.ofBool miso
      fsm := if s.spiBits ≤ s.spi.bitCnt + 1 then .ending else .transmission
      bitCnt := s.spi.bitCnt + 1, phase := false, clock := !s.spi.clock } } := by
  simp only [State.spiClock, works, phase, if_true, State.spiPhaseHigh, sends]
  simp [State.spiToggle]

theorem spiClock_ending (works : s.spiWorks = true) (ends : s.spi.fsm = .ending) (phase : s.spi.phase = true) :
    s.spiClock miso = s.spiEnd.spiToggle := by
  simp [State.spiClock, works, phase, State.spiPhaseHigh, ends]

theorem spiWorks_congr {t : State} (h : t.csr2 = s.csr2) : t.spiWorks = s.spiWorks := by
  rw [State.spiWorks, State.spiWorks, State.spiMaster, State.spiMaster, State.spiCpol, State.spiCpol, State.spiCpha,
    State.spiCpha, h]

theorem spiBits_congr {t : State} (h : t.csr2 = s.csr2) (hcfg : t.cfg = s.cfg) : t.spiBits = s.spiBits := by
  rw [State.spiBits, State.spiBits, h, hcfg]

theorem spiWorks_of_master (master : s.csr2.getLsbD 7 = true) : s.spiWorks = true := by
  rw [State.spiWorks, State.spiMaster, master, Bool.true_or]

theorem spiStarts_of_master (master : s.csr2.getLsbD 7 = true) : s.spiStarts = s.spi.startCommand := by
  rw [State.spiStarts, State.spiMaster, master, if_pos rfl]

/-- The chip-select edge of a master, whatever the clock mode (R237). -/
theorem spiClock_master_fsm (master : s.csr2.getLsbD 7 = true) (idle : s.spi.fsm = .idle)
    (start : s.spi.startCommand = true) (phase : s.spi.phase = true) : (s.spiClock miso).spi.fsm = .assignCs := by
  rw [spiClock_start (spiWorks_of_master master) idle phase ((spiStarts_of_master master).trans start)]

/-- An edge that leaves IDLE is a chip-select edge. -/
theorem spiClock_leaves_idle (idle : s.spi.fsm = .idle) (left : (s.spiClock miso).spi.fsm ≠ .idle) :
    s.spiWorks = true ∧ s.spi.phase = true ∧ s.spiStarts = true := by
  have works : s.spiWorks = true := by
    by_contra still
    exact left (by simpa [State.spiClock, still] using idle)
  refine ⟨works, ?_⟩
  by_contra stays
  rw [not_and_or, Bool.not_eq_true, Bool.not_eq_true] at stays
  exact left (by rw [spiClock_stay idle stays]; exact idle)

end

/-- Settles O31: the store's rules, and the edge that leaves IDLE. -/
theorem storeStartsSpiTransfer : Obligations.StoreStartsSpiTransfer := by
  refine ⟨fun s i v h hg ready => ?ready, fun s i v h hg busy => ?busy, fun s away => ?away,
    fun s b idle left => ?leaves, fun s b c master idle start => ⟨fun phase => ?high, fun phase => ?low⟩⟩
  case ready =>
    have notReady : (stored s .spi 0x00010004#32 v).spiReady = false := spiReady_eq_false_iff.2 (.inr rfl)
    exact ⟨_, storeDone_of_ready (d := .spi) h hg rfl ready, rfl, notReady, rfl⟩
  case busy => exact (exec_of_storesAt h).trans (State.store_of_busy (d := .spi) rfl hg busy)
  case away => exact spiReady_eq_false_iff.2 (.inl away)
  case leaves =>
    obtain ⟨works, phase, starts⟩ := spiClock_leaves_idle idle left
    rw [spiClock_start works idle phase starts]
    exact ⟨rfl, rfl⟩
  case high => exact spiClock_master_fsm master idle start phase
  case low =>
    rw [spiClock_stay idle (.inl phase)]
    refine ⟨idle, spiClock_master_fsm master idle start ?_⟩
    rw [State.spiToggle, phase]
    rfl

/-! ### The bits of a transfer (R233) -/

/-- The SPI of `t`, a transfer from `s` whose MISO at edge `i` is `level i`, with `k` bits received. -/
structure SpiAt (s : State) (level : Nat → Bool) (k : Nat) (t : State) : Prop where
  csr2 : t.csr2 = s.csr2
  cfg : t.cfg = s.cfg
  spi : t.spi = { s.spi with
    fsm := if s.spiBits ≤ k then .ending else .transmission, bitCnt := k, phase := true
    clock := t.spi.clock, mosi := t.spi.mosi, shiftReg := t.spi.shiftReg }
  mosi : k < s.spiBits → t.spi.mosi = s.spi.buffer.getLsbD (31 - k)
  bits : ∀ j < 32, t.spi.shiftReg.getLsbD j =
    if j < k then level (4 + 2 * (k - 1 - j)) else s.spi.buffer.getLsbD (j - k)

/-- One more bit at the low end moves the others up. -/
theorem getLsbD_shiftIn (x : Word) (b : Bool) {j : Nat} (hj : j < 32) :
    (x.extractLsb' 0 31 ++ BitVec.ofBool b).getLsbD j = if j = 0 then b else x.getLsbD (j - 1) := by
  rw [BitVec.getLsbD_append]
  cases j with
  | zero => simp
  | succ j =>
    have inside : j < 31 := by omega
    simp [inside]

section
variable {s t : State} {level : Nat → Bool} {k : Nat}

theorem spiEdges_succ : spiEdges s level (k + 1) = (spiEdges s level k).spiClock (level k) := by
  rw [spiEdges, List.range_succ, List.map_append, State.applyEvents_append]
  rfl

theorem spiBits_cases (s : State) : s.spiBits = 8 ∨ s.spiBits = 16 ∨ s.spiBits = 32 := by
  rw [State.spiBits]
  split
  · cases s.cfg.spiSize00 <;> simp
  · cases s.cfg.spiSize01 <;> simp
  · cases s.cfg.spiSize10 <;> simp
  · simp

/-- SIZE code 11 is 32 bits (R21). -/
theorem spiBits_of_code3 (h5 : s.csr2.getLsbD 5 = true) (h6 : s.csr2.getLsbD 6 = true) : s.spiBits = 32 := by
  have code : s.csr2.extractLsb' 5 2 = 3#2 := by
    refine BitVec.eq_of_getLsbD_eq fun j hj => ?_
    rw [BitVec.getLsbD_extractLsb', decide_eq_true hj, Bool.true_and]
    interval_cases j
    · exact h5
    · exact h6
  rw [State.spiBits, code]
  rfl

/-- The four edges of chip select bring the SPI to its first bit. -/
theorem spiAt_start (works : s.spiWorks = true) (idle : s.spi.fsm = .idle) (phase : s.spi.phase = true)
    (starts : s.spiStarts = true) : SpiAt s level 0 (spiEdges s level 4) := by
  have some : ¬ s.spiBits ≤ 0 := by have := spiBits_cases s; omega
  have e1 : spiEdges s level 1 = _ := spiClock_start works idle phase starts
  have e2 : spiEdges s level 2 = (spiEdges s level 1).spiToggle :=
    spiEdges_succ.trans (spiClock_low (by rw [e1]) (by rw [e1]; nofun))
  have works2 : (spiEdges s level 2).spiWorks = true := by rw [e2, e1]; exact works
  have e3 : spiEdges s level 3 = _ :=
    spiEdges_succ.trans (spiClock_assignCs works2 (by rw [e2, e1]; rfl) (by rw [e2, e1]; rfl))
  have works3 : (spiEdges s level 3).spiWorks = true := by rw [e3]; exact works2
  have e4 : spiEdges s level 4 = _ := spiEdges_succ.trans (spiClock_drive works3 (by rw [e3]) (by rw [e3]))
  rw [e4, e3, e2, e1]
  exact ⟨rfl, rfl, by rw [if_neg some]; rfl, fun _ => rfl, fun _ _ => rfl⟩

/-- The shift register after one more sampling edge. -/
theorem SpiAt.shiftIn (h : SpiAt s level k t) {j : Nat} (hj : j < 32) :
    (t.spi.shiftReg.extractLsb' 0 31 ++ BitVec.ofBool (level (4 + 2 * k))).getLsbD j =
      if j < k + 1 then level (4 + 2 * (k + 1 - 1 - j)) else s.spi.buffer.getLsbD (j - (k + 1)) := by
  rw [getLsbD_shiftIn _ _ hj]
  cases j with
  | zero => rfl
  | succ j =>
    have edge : k - 1 - j = k + 1 - 1 - (j + 1) := by omega
    rw [if_neg (Nat.succ_ne_zero j), Nat.add_sub_cancel j 1, h.bits j (by omega), edge, Nat.add_sub_add_right j 1 k]
    simp only [Nat.add_lt_add_iff_right]

/-- One sampling edge and the edge after it, which drives the next bit while there is one. -/
theorem spiAt_next (h : SpiAt s level k t) (works : s.spiWorks = true) (hk : k < s.spiBits) :
    SpiAt s level (k + 1) ((t.spiClock (level (4 + 2 * k))).spiClock (level (5 + 2 * k))) := by
  have sends : t.spi.fsm = .transmission := by rw [h.spi, if_neg (by omega)]
  have phase : t.spi.phase = true := by rw [h.spi]
  have count : t.spi.bitCnt = k := by rw [h.spi]
  have sampled := spiClock_sample (miso := level (4 + 2 * k)) ((spiWorks_congr h.csr2).trans works) sends phase
  rw [spiBits_congr h.csr2 h.cfg, count] at sampled
  have small := spiBits_cases s
  by_cases last : s.spiBits ≤ k + 1
  · rw [spiClock_low (by rw [sampled]) (by rw [sampled, if_pos last]; nofun), sampled]
    refine ⟨h.csr2, h.cfg, ?_, fun more => absurd last (by omega), fun j hj => h.shiftIn hj⟩
    rw [if_pos last, h.spi]
    rfl
  · have works' : (t.spiClock (level (4 + 2 * k))).spiWorks = true := by
      rw [sampled]
      exact (spiWorks_congr h.csr2).trans works
    rw [spiClock_drive works' (by rw [sampled, if_neg last]) (by rw [sampled]), sampled]
    refine ⟨h.csr2, h.cfg, ?_, fun more => ?_, fun j hj => h.shiftIn hj⟩
    · rw [if_neg last, h.spi]
    · exact (h.shiftIn (j := 31) (by omega)).trans (if_neg (by omega))

/-- The SPI after the four edges of chip select and `k` bits. -/
theorem spiAt_edges (works : s.spiWorks = true) (idle : s.spi.fsm = .idle) (phase : s.spi.phase = true)
    (starts : s.spiStarts = true) (hk : k ≤ s.spiBits) : SpiAt s level k (spiEdges s level (4 + 2 * k)) := by
  induction k with
  | zero => exact spiAt_start works idle phase starts
  | succ k ih =>
    have position : 4 + 2 * (k + 1) = 4 + 2 * k + 1 + 1 := by omega
    have next : 4 + 2 * k + 1 = 5 + 2 * k := by omega
    rw [position, spiEdges_succ, spiEdges_succ, next]
    exact spiAt_next (ih (by omega)) works (by omega)

end

/-! ### The end of a transfer (R234, R235) -/

section
variable (t : State)

/-- Of the status bits the end of a transfer sets the first clear one of Buf1, Buf2, and OVR when both are full. -/
theorem spiEnd_csr2 (j : Nat) : t.spiEnd.csr2.getLsbD j =
    if j = (if t.spiBuf1 = false then 9 else if t.spiBuf2 = false then 10 else 8) then true else t.csr2.getLsbD j := by
  unfold State.spiEnd
  cases t.spiBuf1 with
  | false => simp [getLsbD_setBit]
  | true => cases t.spiBuf2 <;> simp [getLsbD_setBit]

theorem spiEnd_spi : t.spiEnd.spi = { t.spi with
    buffer2 := t.spi.buffer1, buffer1 := t.spi.shiftReg, fsm := .idle, startCommand := false } := rfl

theorem spiEnd_raises : t.spiEnd.csr5.getLsbD 10 = true := getLsbD_setBit ..

end

/-- Settles O32: the transfer bit by bit is `SpiAt`, its last edge is `spiEnd`. -/
theorem spiTransferReceivesWord : Obligations.SpiTransferReceivesWord := by
  intro s level N idle phase hN ways
  subst hN
  have ready : s.spiWorks = true ∧ s.spiStarts = true := by
    rcases ways with ⟨master, start⟩ | ⟨slave, select, cpol, cpha⟩
    · exact ⟨spiWorks_of_master master, (spiStarts_of_master master).trans start⟩
    · constructor
      · rw [State.spiWorks, State.spiCpol, State.spiCpha, cpol, cpha, Bool.not_false, Bool.and_self, Bool.or_true]
      · rw [State.spiStarts, State.spiMaster, slave]
        exact select
  obtain ⟨works, starts⟩ := ready
  have at_ {k : Nat} (hk : k ≤ s.spiBits) := spiAt_edges (level := level) works idle phase starts hk
  have last := at_ le_rfl
  have ends : (spiEdges s level (4 + 2 * s.spiBits)).spi.fsm = .ending := by rw [last.spi, if_pos le_rfl]
  have ended : spiEdges s level (5 + 2 * s.spiBits) = (spiEdges s level (4 + 2 * s.spiBits)).spiEnd.spiToggle := by
    have position : 5 + 2 * s.spiBits = 4 + 2 * s.spiBits + 1 := by omega
    rw [position, spiEdges_succ]
    exact spiClock_ending ((spiWorks_congr last.csr2).trans works) ends (by rw [last.spi])
  refine ⟨spiBits_cases s, spiBits_of_code3, fun k hk => (at_ hk.le).mosi hk, ends, last.bits, ?_⟩
  rw [ended]
  refine ⟨rfl, rfl, rfl, ?_, spiEnd_raises _, ?_⟩
  · rw [State.spiToggle_spi, spiEnd_spi, last.spi]
  · simp only [State.spiToggle_csr2, spiEnd_csr2, State.spiBuf1, State.spiBuf2, last.csr2]
    cases s.csr2.getLsbD 9 <;> cases s.csr2.getLsbD 10 <;> simp

end Sys2Proof.Machine
end
